-- ==== Sys2Proof/Word.lean ====
section
/-! DEFINITION. The words of the part (bytes, 16-bit host words), the names of its seven ports and six
links (00_scope.md section 6.2), and the two fixed tables indexed by them. -/

namespace Sys2Proof

/-- A byte is 8 bits (00_scope.md section 6.1). -/
abbrev Byte := BitVec 8

/-- A word on the host bus is 16 bits (00_scope.md section 6.1). -/
abbrev Word := BitVec 16

/-- A traffic counter is 32 bits wide (R174). -/
abbrev Count32 := BitVec 32

/-- The seven ports: the host port is port 0, the links are ports 1 to 6. Each is an input and an output. -/
inductive Port where
  | p0 | p1 | p2 | p3 | p4 | p5 | p6
  deriving DecidableEq, Repr

/-- The six links L1 to L6. -/
inductive LinkId where
  | l1 | l2 | l3 | l4 | l5 | l6
  deriving DecidableEq, Repr

/-- The port number, 0 to 6. -/
def Port.num : Port → Nat
  | .p0 => 0 | .p1 => 1 | .p2 => 2 | .p3 => 3 | .p4 => 4 | .p5 => 5 | .p6 => 6

/-- The port a number names, if it names one. -/
def Port.ofNum? : Nat → Option Port
  | 0 => some .p0 | 1 => some .p1 | 2 => some .p2 | 3 => some .p3
  | 4 => some .p4 | 5 => some .p5 | 6 => some .p6 | _ => none

/-- The ports in rising order. -/
def Port.all : List Port := [.p0, .p1, .p2, .p3, .p4, .p5, .p6]

/-- The link number, 1 to 6. -/
def LinkId.num : LinkId → Nat
  | .l1 => 1 | .l2 => 2 | .l3 => 3 | .l4 => 4 | .l5 => 5 | .l6 => 6

/-- "Port 3" and "L3" name the same thing. -/
def LinkId.port : LinkId → Port
  | .l1 => .p1 | .l2 => .p2 | .l3 => .p3 | .l4 => .p4 | .l5 => .p5 | .l6 => .p6

/-- The link of a port; port 0 is no link. -/
def Port.link? : Port → Option LinkId
  | .p0 => none | .p1 => some .l1 | .p2 => some .l2 | .p3 => some .l3
  | .p4 => some .l4 | .p5 => some .l5 | .p6 => some .l6

/-- The links in rising order. -/
def LinkId.all : List LinkId := [.l1, .l2, .l3, .l4, .l5, .l6]

/-- One item for each of the seven ports. -/
structure PerPort (α : Type) where
  p0 : α
  p1 : α
  p2 : α
  p3 : α
  p4 : α
  p5 : α
  p6 : α
  deriving DecidableEq, Repr

/-- One item for each of the six links. -/
structure PerLink (α : Type) where
  l1 : α
  l2 : α
  l3 : α
  l4 : α
  l5 : α
  l6 : α
  deriving DecidableEq, Repr

/-- The same item at every port. -/
def PerPort.const {α : Type} (a : α) : PerPort α := ⟨a, a, a, a, a, a, a⟩

/-- The same item at every link. -/
def PerLink.const {α : Type} (a : α) : PerLink α := ⟨a, a, a, a, a, a⟩

/-- The item of port `p`. -/
def PerPort.get {α : Type} (v : PerPort α) : Port → α
  | .p0 => v.p0 | .p1 => v.p1 | .p2 => v.p2 | .p3 => v.p3
  | .p4 => v.p4 | .p5 => v.p5 | .p6 => v.p6

/-- The item of port `p` replaced. -/
def PerPort.set {α : Type} (v : PerPort α) (p : Port) (a : α) : PerPort α :=
  match p with
  | .p0 => { v with p0 := a }
  | .p1 => { v with p1 := a }
  | .p2 => { v with p2 := a }
  | .p3 => { v with p3 := a }
  | .p4 => { v with p4 := a }
  | .p5 => { v with p5 := a }
  | .p6 => { v with p6 := a }

/-- The item of link `p`. -/
def PerLink.get {α : Type} (v : PerLink α) : LinkId → α
  | .l1 => v.l1 | .l2 => v.l2 | .l3 => v.l3
  | .l4 => v.l4 | .l5 => v.l5 | .l6 => v.l6

/-- The item of link `p` replaced. -/
def PerLink.set {α : Type} (v : PerLink α) (p : LinkId) (a : α) : PerLink α :=
  match p with
  | .l1 => { v with l1 := a }
  | .l2 => { v with l2 := a }
  | .l3 => { v with l3 := a }
  | .l4 => { v with l4 := a }
  | .l5 => { v with l5 := a }
  | .l6 => { v with l6 := a }

/-- The items in rising port order. -/
def PerPort.toList {α : Type} (v : PerPort α) : List α := Port.all.map v.get

/-- The items in rising link order. -/
def PerLink.toList {α : Type} (v : PerLink α) : List α := LinkId.all.map v.get

end Sys2Proof
end

