-- ==== Sys2Proof/Syntax.lean ====
section
/-! DEFINITION. The commands the part takes from outside, one constructor for each row of
spec/opcode_table.json, and the small types their operands use. A host command carries no operand of its
own: its parameters stand in the PARAM registers when the COMMAND write is taken (R128, R141). -/

namespace Sys2Proof

/-- The service class of a frame or a copy (R2, R44). -/
inductive Class where
  | standard | express
  deriving DecidableEq, Repr

/-- The six kinds of link character (R7). -/
inductive LinkChar where
  /-- DATA(b). -/
  | data (b : Byte)
  | endGood
  | endCut
  /-- CREDIT(n), n from 1 to 16. -/
  | credit (n : Nat)
  | idle
  | hello
  deriving DecidableEq, Repr

/-- The registers whose write has no row of its own: PARAM0 to PARAM3 and IRQ_ENABLE, and the addresses at
which a write is ignored (R125). -/
inductive PlainReg where
  | error | irqEnable
  | param0 | param1 | param2 | param3
  | result0 | result1 | result2 | result3
  | linkState | id
  deriving DecidableEq, Repr

/-- One command: an event at the part's edge, or an event of its own inside it. -/
inductive Instr where
  /-- DATA_RECEIVED: DATA(byte) arrives on a link (R109). -/
  | dataReceived (link : LinkId) (byte : Byte)
  /-- END_GOOD_RECEIVED (R13). -/
  | endGoodReceived (link : LinkId)
  /-- END_CUT_RECEIVED (R14). -/
  | endCutReceived (link : LinkId)
  /-- CREDIT_RECEIVED: CREDIT(count), count from 1 to 16 (R110). -/
  | creditReceived (link : LinkId) (count : Nat)
  /-- IDLE_RECEIVED (R106). -/
  | idleReceived (link : LinkId)
  /-- HELLO_RECEIVED (R103). -/
  | helloReceived (link : LinkId)
  /-- CODE_ERROR_RECEIVED: a symbol that fails parity or holds an unknown control code (R113). -/
  | codeErrorReceived (link : LinkId)
  /-- SILENCE_TIMER_EXPIRY (R107). -/
  | silenceTimerExpiry (link : LinkId)
  /-- SYNC_TIMER_EXPIRY (R105). -/
  | syncTimerExpiry (link : LinkId)
  /-- RECOVERY_TIMER_EXPIRY (R116). -/
  | recoveryTimerExpiry (link : LinkId)
  /-- STALL_TIMER_EXPIRY of the link's output (R87). -/
  | stallTimerExpiry (link : LinkId)
  /-- HOLD_TIMER_EXPIRY of the link's output (R91). -/
  | holdTimerExpiry (link : LinkId)
  /-- REFILL: the pool picks the link (R21, R22). -/
  | refill
  /-- SELECTION at a link output (R81). -/
  | selection (link : LinkId)
  /-- TRANSMIT_CHARACTER: one symbol time of a link's transmitter (R111). -/
  | transmitCharacter (link : LinkId)
  /-- RESOLUTION of the completed SEND frame (R145). -/
  | resolution
  /-- INITIALISATION_END (R140). -/
  | initialisationEnd
  /-- CLEAR_SWITCH_END (R161). -/
  | clearSwitchEnd
  /-- HARD_RESET: the power-on detector acts or RESET# goes low (R140). -/
  | hardReset
  /-- SOFT_RESET: this word is written to CONTROL, soft reset request set (R138). -/
  | softReset (word : Word)
  /-- MASTER_ENABLE_WRITE: this word is written to CONTROL, soft reset request clear (R138). -/
  | masterEnableWrite (word : Word)
  /-- IRQ_CAUSE_WRITE (R136). -/
  | irqCauseWrite (word : Word)
  /-- DATA_WRITE (R131). -/
  | dataWrite (word : Word)
  /-- DATA_READ (R132). -/
  | dataRead
  /-- REGISTER_WRITE (R125). -/
  | registerWrite (reg : PlainReg) (word : Word)
  /-- SEND: code 0001H written to COMMAND (R144). -/
  | send
  /-- RECV: code 0002H (R147). -/
  | recv
  /-- SKIP: code 0003H (R149). -/
  | skip
  /-- ABORT: code 0004H (R150). -/
  | abort
  /-- TABLE_WRITE: code 0010H (R55). -/
  | tableWrite
  /-- TABLE_READ: code 0011H (R56). -/
  | tableRead
  /-- ENABLE: code 0020H, LINK_CONTROL, with the action ENABLE in PARAM1 (R117). -/
  | enable
  /-- DISABLE: code 0020H, LINK_CONTROL, with the action DISABLE in PARAM1 (R119). -/
  | disable
  /-- RESTART: code 0020H, LINK_CONTROL, with the action RESTART in PARAM1 (R118). -/
  | restart
  /-- PORT_CONFIG: code 0021H (R153). -/
  | portConfig
  /-- PORT_FLUSH: code 0022H (R154). -/
  | portFlush
  /-- READ_PORT: code 0023H (R155). -/
  | readPort
  /-- SET_POOL: code 0030H (R156). -/
  | setPool
  /-- READ_POOL: code 0031H (R157). -/
  | readPool
  /-- READ_COUNTER: code 0040H (R158). -/
  | readCounter
  /-- CLEAR_COUNTERS: code 0041H (R159). -/
  | clearCounters
  /-- TAKE_RECORD: code 0042H (R160). -/
  | takeRecord
  /-- CLEAR_SWITCH: code 0050H (R161). -/
  | clearSwitch
  /-- BAD_COMMAND: a code that names no command is written to COMMAND (R143). -/
  | badCommand
  /-- RESET_RELEASE: RESET# returns high, or the power-on detector stops acting (R140). -/
  | resetRelease
  deriving DecidableEq, Repr

end Sys2Proof
end

