-- ==== Sys2Proof/Decode.lean ====
section
/-! DEFINITION. How the commands are spelled at the part's edges: the 10-bit symbols of a link (R7, R178)
and the writes and reads of the host bus (R125, R180, R181, section 11.3). The opcode table gives none of its
rows bits of its own, so `decodeTableWord` answers none. -/

namespace Sys2Proof

/-- No row of spec/opcode_table.json carries bits ("fields" is empty in every row), so no word spells one
by the table. -/
def decodeTableWord (_nbits _w : Nat) : Option Instr := none

/-! ## Link symbols -/

/-- The number of ones among the bits of a symbol. -/
def onesCount (s : BitVec 10) : Nat := ((List.range 10).filter fun i => s.getLsbD i).length

/-- The control code of a control character (R178); `none` for DATA. A CREDIT count above 16 has no code. -/
def LinkChar.controlCode? : LinkChar → Option Byte
  | .data _ => none
  | .endGood => some 0x3C#8
  | .endCut => some 0xC3#8
  | .idle => some 0x5A#8
  | .hello => some 0xA5#8
  | .credit n => if 1 ≤ n ∧ n ≤ 16 then some (BitVec.ofNat 8 (0x7F + n)) else none

/-- Bits 8 to 0 of the symbol: the flag, then the value (R178). -/
def LinkChar.body : LinkChar → BitVec 9
  | .data b => 0#1 ++ b
  | c => 1#1 ++ (c.controlCode?).getD 0

/-- The parity bit that makes the ten bits hold an odd number of ones (R178). -/
def parityBit (body : BitVec 9) : BitVec 1 :=
  if onesCount (0#1 ++ body) % 2 = 0 then 1#1 else 0#1

/-- The 10-bit symbol the transmitter sends for a character (R178). -/
def LinkChar.symbol (c : LinkChar) : BitVec 10 := parityBit c.body ++ c.body

/-- The character a received symbol holds; `none` is a CODE_ERROR: an even count of ones, or a control
symbol whose code is not listed (R178). -/
def decodeSymbol (s : BitVec 10) : Option LinkChar :=
  let value : Byte := s.setWidth 8
  if onesCount s % 2 = 0 then none
  else if !s.getLsbD 8 then some (.data value)
  else if value = 0x3C#8 then some .endGood
  else if value = 0xC3#8 then some .endCut
  else if value = 0x5A#8 then some .idle
  else if value = 0xA5#8 then some .hello
  else if 0x80 ≤ value.toNat ∧ value.toNat ≤ 0x8F then some (.credit (value.toNat - 0x7F))
  else none

/-- The ten bits of a symbol in the order in which they stand on the pair: bit 0 first, bit 9 last (R178). -/
def serialBits (v : BitVec 10) : List Bool := (List.range 10).map fun i => v.getLsbD i

/-- The symbol that ten bits make, read from the pair with the first as bit 0 (R178). -/
def symbolOfBits (bits : List Bool) : BitVec 10 :=
  bits.foldr (fun b v => (v <<< 1) ||| BitVec.ofNat 10 b.toNat) 0

/-- The command that a symbol arriving on a link is (R7). -/
def commandOfSymbol (p : LinkId) (s : BitVec 10) : Instr :=
  match decodeSymbol s with
  | some (.data b) => .dataReceived p b
  | some .endGood => .endGoodReceived p
  | some .endCut => .endCutReceived p
  | some (.credit n) => .creditReceived p n
  | some .idle => .idleReceived p
  | some .hello => .helloReceived p
  | none => .codeErrorReceived p

/-- The command that ten bits arriving on a link's receive pair are, the first bit first (R7, R178). -/
def commandOfBits (p : LinkId) (bits : List Bool) : Instr := commandOfSymbol p (symbolOfBits bits)

/-! ## Host bus accesses -/

/-- The command that a word written to COMMAND is (R181: matched as a whole word). LINK_CONTROL is three
rows of the table, told apart by the action in PARAM1. A LINK_CONTROL write whose action word names none of
the three is taken under the row ENABLE, whose meaning refuses it with BAD_PARAM (R152). -/
def commandOfCode (param1 code : Word) : Instr :=
  if code = 0x0001#16 then .send
  else if code = 0x0002#16 then .recv
  else if code = 0x0003#16 then .skip
  else if code = 0x0004#16 then .abort
  else if code = 0x0010#16 then .tableWrite
  else if code = 0x0011#16 then .tableRead
  else if code = 0x0020#16 then
    if param1 = 2#16 then .disable else if param1 = 3#16 then .restart else .enable
  else if code = 0x0021#16 then .portConfig
  else if code = 0x0022#16 then .portFlush
  else if code = 0x0023#16 then .readPort
  else if code = 0x0030#16 then .setPool
  else if code = 0x0031#16 then .readPool
  else if code = 0x0040#16 then .readCounter
  else if code = 0x0041#16 then .clearCounters
  else if code = 0x0042#16 then .takeRecord
  else if code = 0x0050#16 then .clearSwitch
  else .badCommand

/-- The command that a write strobe at a word address is (section 11.3). `param1` is what PARAM1 holds at
that moment. -/
def commandOfWrite (param1 : Word) (address : BitVec 4) (word : Word) : Instr :=
  match address.toNat with
  | 0 => if word.getLsbD 15 then .softReset word else .masterEnableWrite word
  | 1 => .registerWrite .error word
  | 2 => .irqCauseWrite word
  | 3 => .registerWrite .irqEnable word
  | 4 => commandOfCode param1 word
  | 5 => .registerWrite .param0 word
  | 6 => .registerWrite .param1 word
  | 7 => .registerWrite .param2 word
  | 8 => .registerWrite .param3 word
  | 9 => .registerWrite .result0 word
  | 10 => .registerWrite .result1 word
  | 11 => .registerWrite .result2 word
  | 12 => .registerWrite .result3 word
  | 13 => .dataWrite word
  | 14 => .registerWrite .linkState word
  | _ => .registerWrite .id word

/-- The command that a read strobe at a word address is. A read of any register but DATA has no effect on
any state (R125); what it returns is `Machine.readRegister` of Sys2Proof/Machine/Flags.lean. -/
def commandOfRead (address : BitVec 4) : Option Instr :=
  if address = 13#4 then some .dataRead else none

end Sys2Proof
end

