-- ==== Sys2Proof/Config.lean ====
section
/-! DEFINITION. What the manual fixes for every MSL6: sizes, limits, durations, and the values that settings
take at a hard reset. The manual leaves no result of a command open, so there is no free value here; the one
value the model itself names is `unwrittenByte` (notes/assumptions/1.md). -/

namespace Sys2Proof.Config

/-- A cell is one 64-byte unit of frame memory (R3). -/
def cellBytes : Nat := 64
/-- 1024 cells (R15). -/
def cellCount : Nat := 1024
/-- 192 frame descriptors (chapter 3). -/
def descCount : Nat := 192
/-- A class queue holds at most 32 copies (Law 5, R75). -/
def queueCap : Nat := 32
/-- The record list holds at most 16 records (R166). -/
def recordCap : Nat := 16
/-- The overflow count stays at 255 (R168). -/
def overflowMax : Nat := 255
/-- The greatest legal LENGTH (R2, R3). -/
def maxPayload : Nat := 1016
/-- The transmit credit never exceeds 64 (Law 4, R110). -/
def creditMax : Nat := 64

/-- Silence time, in µs (R107). -/
def silenceUs : Nat := 64
/-- SYNC limit, in µs (R105). -/
def syncUs : Nat := 2000
/-- Recovery period, in µs (R116). -/
def recoveryUs : Nat := 100

/-- Floor F after hard reset (R32). -/
def floorReset : Nat := 64
/-- Every advance A_p after hard reset (R32). -/
def advanceReset : Nat := 4
/-- Every hold limit L_p after hard reset (R32). -/
def holdLimitReset : Nat := 128
/-- Yield count after hard reset (R79). -/
def yieldReset : Nat := 4
/-- Stall code after hard reset (R79). -/
def stallReset : Byte := 10
/-- Hold code after hard reset (R79). -/
def holdReset : Byte := 100

/-- The ID register (section 11.3): part code 4DH, six link ports, revision 1. -/
def idWord : Word := 0x4D61#16

/-- DESIGN CHOICE, unsafe (notes/assumptions/1.md): what a byte of the frame memory that nothing has
written reads as. The manual gives it no content, and no run from reset ever reads one. -/
def unwrittenByte : Byte := 0

end Sys2Proof.Config
end

