-- ==== Sys2Proof/Machine/State.lean ====
section
/-! DEFINITION. The state of the part: every piece the manual gives it, as plain data, and its value right
after a hard reset. -/

namespace Sys2Proof.Machine

/-! ## Names -/

/-- A cell number, 0 to 1023. -/
abbrev CellId := Fin 1024

/-- A descriptor number, 0 to 191. -/
abbrev DescId := Fin 192

/-- A Destination Table entry number, 0 to 255: a frame's DEST. -/
abbrev EntryId := Fin 256

/-- The states of a link (R100). -/
inductive LinkState where
  | disabled | listen | sync | run | faulted
  deriving DecidableEq, Repr

/-- The queue state of an output (R77). -/
inductive QueueState where
  | closed | opened | held
  deriving DecidableEq, Repr

/-- The states of a descriptor in use; a FREE descriptor is an empty place of the table (R34, R35). -/
inductive DescState where
  | assembling | stored
  deriving DecidableEq, Repr

/-- The states of a copy (R44). -/
inductive CopyState where
  | queued | departing
  deriving DecidableEq, Repr

/-- The kind of a Destination Table entry (R51). -/
inductive EntryKind where
  | invalid | single | spread | fanout
  deriving DecidableEq, Repr

/-- The class rule of a Destination Table entry (R51). -/
inductive ClassRule where
  | keep | forceExpress | forceStandard
  deriving DecidableEq, Repr

/-- Link rates (R123). -/
inductive Rate where
  | mbit100 | mbit50 | mbit25 | mbit10
  deriving DecidableEq, Repr

/-- The kinds of link fault (R113). RESTART_REQ makes no record and has no record code. -/
inductive FaultKind where
  | codeError | silence | syncTimeout | protocol | creditOverrun | rxOverrun | oversize | restartSeen
  | restartReq
  deriving DecidableEq, Repr

/-- The one code space of ERROR and of the record causes (R142, R169, section 11.4). -/
inductive Code where
  | ok
  | noDescriptor | invalidDest | selfRoute | hopExpired | portClosed | queueFull
  | checkFail | lengthMismatch | cutIn | stalled | linkLost | linkFault
  | badCommand | badParam | badState | anchored | linksActive | poolLow | holdLimit
  | queueEmpty | noRecord | noTransfer | aborted
  deriving DecidableEq, Repr

/-- A timer is stopped, or running with its duration in µs. The time already elapsed is no state of the
model: the expiry command says that the duration has passed (notes/assumptions/4.md). -/
inductive Timer where
  | stopped
  | running (us : Nat)
  deriving DecidableEq, Repr

/-! ## Frame memory -/

/-- The bytes of the 1024 cells: byte `o` of cell `c` lies at address `64 * c + o`. A list of address and
byte in the canonical form `Memory.wf` of Sys2Proof/Machine/Ops.lean. -/
abbrev Memory := List Host.Cell

/-! ## Frames, descriptors, copies -/

/-- The five fields of a frame header (R2, R179). -/
structure Header where
  dest : Byte
  cls : Class
  hops : BitVec 4
  spare : BitVec 3
  length : Word
  deriving DecidableEq, Repr

/-- One copy of a frame at an output (R44); the output is its place in the copy set. -/
structure Copy where
  cls : Class
  state : CopyState
  deriving DecidableEq, Repr

/-- A descriptor in use (R34). The copy count is the number of copies in the copy set. -/
structure Descriptor where
  state : DescState
  source : Port
  stamp : Word
  header : Option Header
  chain : List CellId
  copies : PerPort (Option Copy)
  deriving DecidableEq, Repr

/-! ## Cell pool -/

/-- The pool's items of one link (R17): the reserve, in ascending cell number, and the two credit counts. -/
structure LinkPool where
  reserve : List CellId
  outstanding : Nat
  pendingCredit : Nat
  deriving DecidableEq, Repr

/-- The Cell Pool (chapter 2). -/
structure Pool where
  /-- The free list, head first (R16). -/
  freeList : List CellId
  links : PerLink LinkPool
  /-- held_p of each input (R19). -/
  held : PerPort Nat
  /-- The refill pointer (R22). -/
  refillPointer : LinkId
  /-- F. -/
  floor : Nat
  /-- A_p. -/
  advance : PerLink Nat
  /-- L_p. -/
  holdLimit : PerPort Nat
  deriving DecidableEq, Repr

/-! ## Destination Table -/

/-- The contents of an entry (R51). Its rotation pointer stands in `State.rotation`. -/
structure Entry where
  kind : EntryKind
  /-- Bit p set: port p is a member. -/
  ports : BitVec 7
  rule : ClassRule
  deriving DecidableEq, Repr

/-! ## Outputs -/

/-- The departing slot's contents (R85): the copy's descriptor and class, the number of DATA characters of
the frame sent so far, and whether the transmitter waits for credit at a group start. At port 0 the last two
keep 0 and false: the word cursor of the read phase counts there. -/
structure Departure where
  desc : DescId
  cls : Class
  position : Nat
  waiting : Bool
  deriving DecidableEq, Repr

/-- The items every output has (R75, R79). -/
structure Output where
  /-- EXPRESS queue, head first. -/
  express : List DescId
  /-- STANDARD queue, head first. -/
  standard : List DescId
  departing : Option Departure
  yieldRun : Nat
  /-- Setting Y. -/
  yieldCount : Nat
  deriving DecidableEq, Repr

/-- The items of a link output alone (R75, R79). Port 0 has none of them: its queue state is OPEN and its
reflect on in every state (R77, R79). -/
structure LinkOutput where
  queueState : QueueState
  holdTimer : Timer
  stallTimer : Timer
  stallCode : Byte
  holdCode : Byte
  reflect : Bool
  autoRestart : Bool
  speed : Rate
  deriving DecidableEq, Repr

/-! ## Link ports -/

/-- What the receiver does with the bytes of the frame in progress (section 1.7). A STORING frame's bytes
go into the chain of a descriptor. -/
inductive Disposition where
  | storing (desc : DescId)
  | sinkingNoDescriptor
  | sinkingSurplus
  deriving DecidableEq, Repr

/-- The frame in progress on a receiver (section 1.7), with the two things the manual implies it keeps: the
header bytes that came before position 3, and the check value received so far. -/
structure RxFrame where
  position : Nat
  /-- Header bytes received, while the header is absent. -/
  early : List Byte
  header : Option Header
  /-- The running check of R5. -/
  crc : Word
  /-- High byte from position S, low byte from position S+1 (R13). -/
  received : Word
  disposition : Disposition
  deriving DecidableEq, Repr

/-- What the transmitter of a link in SYNC sends next: one HELLO, one IDLE, then CREDIT or IDLE (R103). -/
inductive SyncStep where
  | hello | idle | stream
  deriving DecidableEq, Repr

/-- A link port (R99). -/
structure LinkPort where
  state : LinkState
  restartRequest : Bool
  txCredit : Nat
  /-- `none`: not in a frame. -/
  rx : Option RxFrame
  silenceTimer : Timer
  syncTimer : Timer
  recoveryTimer : Timer
  /-- Rate in use. -/
  rate : Rate
  /-- Where the SYNC stream of R103 stands. -/
  syncStep : SyncStep
  /-- An END_CUT is owed for a copy just cut (R111). -/
  endCutOwed : Bool
  /-- The transmit pair: the character of the present symbol time, or silence. -/
  line : Option LinkChar
  deriving DecidableEq, Repr

/-! ## Records and counters -/

/-- What only a LINK_FAULT record carries (R115). -/
structure FaultReport where
  kind : FaultKind
  lostIn : Bool
  cutOut : Bool
  deriving DecidableEq, Repr

/-- A discard record (R169). DEST and LENGTH are present together. -/
structure Record where
  seq : Word
  cause : Code
  inPort : Option Port
  outPort : Option Port
  frame : Option (Byte × Word)
  count : Option Nat
  fault : Option FaultReport
  deriving DecidableEq, Repr

/-- The record list with its two counters (R166 to R168). -/
structure RecordLog where
  /-- Oldest first. -/
  list : List Record
  nextSeq : Word
  overflow : Nat
  deriving DecidableEq, Repr

/-- The four counters every port has (section 9.4). -/
structure PortCounters where
  framesIn : Count32
  discardsIn : Count32
  framesOut : Count32
  copiesLost : Count32
  deriving DecidableEq, Repr

/-! ## Host window -/

/-- Four words: PARAM0 to PARAM3, or RESULT0 to RESULT3. -/
structure Words4 where
  w0 : Word
  w1 : Word
  w2 : Word
  w3 : Word
  deriving DecidableEq, Repr

/-- The states of the command engine (R127) with what is in progress there. EXECUTING lasts beyond one
event only for a SEND that waits for its resolution, which names its descriptor, and for CLEAR_SWITCH, which
holds the number of frames cleared. The data phases hold the word cursor (R130). -/
inductive Engine where
  | initialising
  | idle
  | executingSend (desc : DescId)
  | executingClear (frames : Nat)
  | writePhase (desc : DescId) (cursor : Nat)
  | readPhase (cursor : Nat)
  deriving DecidableEq, Repr

/-- The Host Window (chapter 7). -/
structure Window where
  engine : Engine
  /-- RESET# is held low, or the power-on detector acts (R140). -/
  resetApplied : Bool
  error : Code
  overrun : Bool
  cmdDone : Bool
  dataReq : Bool
  linkChange : Bool
  /-- The six enable flags in their places; every other bit is 0 (R180). -/
  irqEnable : Word
  masterEnable : Bool
  params : Words4
  /-- The copy of PARAM0 to PARAM3 made when the last command was taken (R128). -/
  taken : Words4
  results : Words4
  /-- D15 to D0 as the last read of DATA since the last reset drove them (notes/assumptions/9.md). -/
  dataBus : Word
  deriving DecidableEq, Repr

/-! ## The whole part -/

/-- The state of the part, and the queue of the commands that wait, first in first out. -/
structure State where
  pool : Pool
  cells : Memory
  descs : Vector (Option Descriptor) 192
  /-- The stamp counter (R36). -/
  stamp : Word
  table : Vector Entry 256
  /-- The rotation pointer of each entry (R53). -/
  rotation : Vector Port 256
  outs : PerPort Output
  linkOuts : PerLink LinkOutput
  links : PerLink LinkPort
  records : RecordLog
  counters : PerPort PortCounters
  linkFaults : PerLink Count32
  win : Window
  /-- The model's own: commands waiting to be taken. -/
  pending : List Instr
  deriving DecidableEq, Repr

/-- Why a step stops with a fault. There is no such reason: every event of the table has an effect in every
state, or none at all, and every address of the frame memory exists. -/
inductive Fault where
  deriving DecidableEq, Repr

/-- Why a step refuses a command. -/
inductive Refusal where
  /-- Raised by `exec` for a row that has no meaning yet; safe. No row is in that case. -/
  | notModelled (mnemonic : String)
  deriving DecidableEq, Repr

/-- What a meaning answers. -/
abbrev Answer := Host.Outcome State Fault Refusal

/-! ## Reset -/

/-- Four zero words. -/
def Words4.zero : Words4 := ⟨0, 0, 0, 0⟩

/-- The pool after a hard reset (R32). -/
def Pool.reset : Pool where
  freeList := List.finRange 1024
  links := PerLink.const ⟨[], 0, 0⟩
  held := PerPort.const 0
  refillPointer := .l6
  floor := Config.floorReset
  advance := PerLink.const Config.advanceReset
  holdLimit := PerPort.const Config.holdLimitReset

/-- An INVALID entry (R52). -/
def Entry.invalid : Entry := ⟨.invalid, 0, .keep⟩

/-- The contents of the anchored entries 240 to 247 (R54). -/
def anchoredEntries : List Entry :=
  [⟨.single, 0b0000001#7, .keep⟩, ⟨.single, 0b0000010#7, .keep⟩, ⟨.single, 0b0000100#7, .keep⟩,
   ⟨.single, 0b0001000#7, .keep⟩, ⟨.single, 0b0010000#7, .keep⟩, ⟨.single, 0b0100000#7, .keep⟩,
   ⟨.single, 0b1000000#7, .keep⟩, ⟨.fanout, 0b1111110#7, .keep⟩]

/-- The contents of the 256 entries after a hard reset, in entry order (R74). -/
def tableResetList : List Entry :=
  List.replicate 240 Entry.invalid ++ anchoredEntries ++ List.replicate 8 Entry.invalid

theorem tableResetList_length : tableResetList.length = 256 := by
  have h : anchoredEntries.length = 8 := rfl
  unfold tableResetList
  rw [List.length_append, List.length_append, List.length_replicate, List.length_replicate, h]

/-- The Destination Table after a hard reset (R74). -/
def tableReset : Vector Entry 256 :=
  ⟨⟨tableResetList⟩, tableResetList_length⟩

/-- An output after a hard reset (R79, R98). -/
def Output.reset : Output := ⟨[], [], none, 0, Config.yieldReset⟩

/-- A link output after a hard reset (R79, R98). -/
def LinkOutput.reset : LinkOutput :=
  ⟨.closed, .stopped, .stopped, Config.stallReset, Config.holdReset, false, false, .mbit100⟩

/-- A link port after a hard reset (R124). Where the SYNC stream stands has no meaning before SYNC. -/
def LinkPort.reset : LinkPort where
  state := .disabled
  restartRequest := false
  txCredit := 0
  rx := none
  silenceTimer := .stopped
  syncTimer := .stopped
  recoveryTimer := .stopped
  rate := .mbit100
  syncStep := .hello
  endCutOwed := false
  line := none

/-- The record list after a hard reset (R173). -/
def RecordLog.reset : RecordLog := ⟨[], 0, 0⟩

/-- Four counters at 0 (R174). -/
def PortCounters.zero : PortCounters := ⟨0, 0, 0, 0⟩

/-- The window as initialisation begins after a hard reset (R140). The copy of the parameters and the data bus have
no stated value there: their zeros are the model's choice (notes/assumptions/9.md and 13.md). -/
def Window.reset : Window where
  engine := .initialising
  resetApplied := false
  error := .ok
  overrun := false
  cmdDone := false
  dataReq := false
  linkChange := false
  irqEnable := 0
  masterEnable := false
  params := Words4.zero
  taken := Words4.zero
  results := Words4.zero
  dataBus := 0

/-- The part right after a hard reset is released: initialisation has begun (R140). -/
def State.reset : State where
  pool := Pool.reset
  cells := []
  descs := Vector.replicate 192 none
  stamp := 0
  table := tableReset
  rotation := Vector.replicate 256 .p6
  outs := PerPort.const Output.reset
  linkOuts := PerLink.const LinkOutput.reset
  links := PerLink.const LinkPort.reset
  records := RecordLog.reset
  counters := PerPort.const PortCounters.zero
  linkFaults := PerLink.const 0
  win := Window.reset
  pending := []

end Sys2Proof.Machine
end

