-- ==== Sys2Proof/Machine/Ops.lean ====
section
/-! DEFINITION. The named operations over the state that the meanings share: the frame memory, the header and
its check, the Cell Pool, the descriptors and their copies, the records and counters. -/

namespace Sys2Proof.Machine

/-! ## Frame memory -/

/-- The byte at an address of the frame memory. -/
def Memory.read : Memory → Nat → Byte
  | [], _ => Config.unwrittenByte
  | (k, v) :: rest, a => if k = a then v else Memory.read rest a

/-- The frame memory with one byte written, in canonical form. -/
def Memory.write : Memory → Nat → Byte → Memory
  | [], a, b => if b = Config.unwrittenByte then [] else [(a, b)]
  | (k, v) :: rest, a, b =>
    if a < k then
      if b = Config.unwrittenByte then (k, v) :: rest else (a, b) :: (k, v) :: rest
    else if a = k then
      if b = Config.unwrittenByte then rest else (a, b) :: rest
    else (k, v) :: Memory.write rest a b

/-- The canonical form: addresses strictly rising and inside the 64 Kbytes, and no entry equal to what an
unlisted address reads as. -/
abbrev Memory.wf (m : Memory) : Prop :=
  m.Pairwise (fun x y => x.1 < y.1) ∧
    ∀ c ∈ m, c.2 ≠ Config.unwrittenByte ∧ c.1 < Config.cellCount * Config.cellBytes

/-- The address of stored byte `k` of a frame (R3): byte `k mod 64` of cell `k / 64` of its chain. -/
def chainAddr? (chain : List CellId) (k : Nat) : Option Nat :=
  (chain[k / Config.cellBytes]?).map fun c => c.val * Config.cellBytes + k % Config.cellBytes

/-- Stored byte `k` of the frame in a chain. -/
def State.frameByte (s : State) (chain : List CellId) (k : Nat) : Byte :=
  match chainAddr? chain k with
  | some a => Memory.read s.cells a
  | none => Config.unwrittenByte

/-- Stored byte `k` of the frame in a chain written. -/
def State.writeFrameByte (s : State) (chain : List CellId) (k : Nat) (b : Byte) : State :=
  match chainAddr? chain k with
  | some a => { s with cells := Memory.write s.cells a b }
  | none => s

/-- The stored bytes from position `k` on written with the given ones. -/
def State.writeFrameBytes (s : State) (chain : List CellId) (k : Nat) : List Byte → State
  | [] => s
  | b :: rest => (s.writeFrameByte chain k b).writeFrameBytes chain (k + 1) rest

/-! ## Header and check -/

/-- The code of a class (section 11.4, R179). -/
def classCode : Class → Nat
  | .standard => 0
  | .express => 1

/-- The four header bytes (R179). -/
def headerBytes (h : Header) : List Byte :=
  [h.dest, BitVec.ofNat 1 (classCode h.cls) ++ h.hops ++ h.spare,
   h.length.extractLsb' 8 8, h.length.extractLsb' 0 8]

/-- The header that four bytes hold (R179). -/
def headerOfBytes (b0 b1 b2 b3 : Byte) : Header where
  dest := b0
  cls := if b1.getLsbD 7 then .express else .standard
  hops := b1.extractLsb' 3 4
  spare := b1.extractLsb' 0 3
  length := b2 ++ b3

/-- The stored size S = 4 + LENGTH (R3). -/
def Header.size (h : Header) : Nat := 4 + h.length.toNat

/-- ceil(n / 64): cells for n stored bytes (R3). -/
def cellsFor (n : Nat) : Nat := (n + 63) / 64

/-- ceil(LENGTH / 2): words of a data phase (R130). -/
def wordsFor (length : Nat) : Nat := (length + 1) / 2

/-- One bit through the check register: generator 1021H (R5). -/
def crcBit (crc : Word) (bit : Bool) : Word :=
  if crc.msb != bit then (crc <<< 1) ^^^ 0x1021#16 else crc <<< 1

/-- One byte through the check register, most significant bit first (R5). -/
def crcByte (crc : Word) (b : Byte) : Word :=
  [7, 6, 5, 4, 3, 2, 1, 0].foldl (fun c i => crcBit c (b.getLsbD i)) crc

/-- The check of a byte sequence: the register starts at FFFFH (R5). -/
def checkOf (bytes : List Byte) : Word := bytes.foldl crcByte 0xFFFF#16

/-- A position that starts a group of a frame of stored size S (R10). -/
def isGroupStart (position size : Nat) : Bool :=
  decide (position % Config.cellBytes = 0) && decide (position < size)

/-! ## Places of the state -/

/-- Link port `p` replaced. -/
def State.setLink (s : State) (p : LinkId) (l : LinkPort) : State :=
  { s with links := s.links.set p l }

/-- Output `p` replaced. -/
def State.setOut (s : State) (p : Port) (o : Output) : State := { s with outs := s.outs.set p o }

/-- The link items of output `p` replaced. -/
def State.setLinkOut (s : State) (p : LinkId) (o : LinkOutput) : State :=
  { s with linkOuts := s.linkOuts.set p o }

/-- The pool's items of link `p` replaced. -/
def State.setLinkPool (s : State) (p : LinkId) (q : LinkPool) : State :=
  { s with pool := { s.pool with links := s.pool.links.set p q } }

/-- held_p set. -/
def State.setHeld (s : State) (p : Port) (n : Nat) : State :=
  { s with pool := { s.pool with held := s.pool.held.set p n } }

/-- Descriptor `d` as it stands; `none` is FREE. -/
def State.desc (s : State) (d : DescId) : Option Descriptor := s.descs[d]

/-- Descriptor `d` replaced. -/
def State.setDesc (s : State) (d : DescId) (x : Option Descriptor) : State :=
  { s with descs := s.descs.set d.val x d.isLt }

/-- Cells appended at the tail of the free list (R16). -/
def State.appendFree (s : State) (cs : List CellId) : State :=
  { s with pool := { s.pool with freeList := s.pool.freeList ++ cs } }

/-- The queue state of an output: port 0 is OPEN in every state (R77). -/
def State.queueState (s : State) (p : Port) : QueueState :=
  match p.link? with
  | none => .opened
  | some l => (s.linkOuts.get l).queueState

/-- The reflect setting of a port: port 0's is on in every state (R60). -/
def State.reflect (s : State) (p : Port) : Bool :=
  match p.link? with
  | none => true
  | some l => (s.linkOuts.get l).reflect

/-- Whether all six links are DISABLED (R20, R161). -/
def State.allDisabled (s : State) : Bool :=
  s.links.toList.all fun l => decide (l.state = .disabled)

/-! ## Cell Pool -/

/-- A cell added to a reserve, which is kept in ascending cell number (R17). -/
def insertCell (c : CellId) : List CellId → List CellId
  | [] => [c]
  | x :: rest => if c < x then c :: x :: rest else x :: insertCell c rest

/-- The four conditions of a refill of link `p` (R21). -/
def State.refillable (s : State) (p : LinkId) : Bool :=
  let q := s.pool.links.get p
  let st := (s.links.get p).state
  (decide (st = .sync) || decide (st = .run)) &&
    decide (q.reserve.length < s.pool.advance.get p) &&
    decide (q.reserve.length + s.pool.held.get p.port < s.pool.holdLimit.get p.port) &&
    decide (s.pool.floor < s.pool.freeList.length)

/-- The links in the order the refill arbiter searches: upward from pointer + 1, 6 followed by 1 (R22). -/
def refillOrder (pointer : LinkId) : List LinkId :=
  ((LinkId.all ++ LinkId.all).drop pointer.num).take 6

/-- One refill of link `p`: the head cell of the free list joins its reserve as pending credit (R21). -/
def State.refillLink (s : State) (p : LinkId) : State :=
  match s.pool.freeList with
  | [] => s
  | c :: rest =>
    let q := s.pool.links.get p
    { s with pool := { s.pool with
        freeList := rest
        links := s.pool.links.set p
          { q with reserve := insertCell c q.reserve, pendingCredit := q.pendingCredit + 1 }
        refillPointer := p } }

/-- The lowest-numbered cell leaves link `p`'s reserve and the outstanding credit falls by 1; `none` is the
pool's refusal of the group start (R24, R25, R26). -/
def State.takeReserveCell (s : State) (p : LinkId) : Option (CellId × State) :=
  let q := s.pool.links.get p
  match q.outstanding, q.reserve with
  | o + 1, c :: rest => some (c, s.setLinkPool p { q with reserve := rest, outstanding := o })
  | _, _ => none

/-- The reserve of link `p` returned: appended to the free list in ascending cell number, and both credit
counts 0 (R28). -/
def State.returnReserve (s : State) (p : LinkId) : State :=
  (s.appendFree (s.pool.links.get p).reserve).setLinkPool p ⟨[], 0, 0⟩

/-! ## Descriptors and copies -/

/-- The lowest-numbered FREE descriptor (R37, R38). -/
def State.lowestFree (s : State) : Option DescId :=
  (List.finRange 192).find? fun d => (s.desc d).isNone

/-- The number of FREE descriptors (R35). -/
def State.freeDescriptors (s : State) : Nat := s.descs.toList.countP Option.isNone

/-- Descriptor `d` allocated: ASSEMBLING, with the counter's value as its arrival stamp, after which the
counter rises by 1 (R36 to R38). -/
def State.allocate (s : State) (d : DescId) (source : Port) (header : Option Header)
    (chain : List CellId) : State :=
  { s.setDesc d (some ⟨.assembling, source, s.stamp, header, chain, PerPort.const none⟩) with
    stamp := s.stamp + 1 }

/-- Descriptor `d` freed: its chain to the tail of the free list in chain order, and its source's held count
lower by the chain's length (R27). -/
def State.freeDesc (s : State) (d : DescId) : State :=
  match s.desc d with
  | none => s
  | some x =>
    ((s.appendFree x.chain).setHeld x.source (s.pool.held.get x.source - x.chain.length)).setDesc d none

/-- The header of descriptor `d`; a STORED descriptor has one (R41). -/
def State.headerOf (s : State) (d : DescId) : Header :=
  ((s.desc d).bind (·.header)).getD ⟨0, .standard, 0, 0, 0⟩

/-- The chain of descriptor `d`. -/
def State.chainOf (s : State) (d : DescId) : List CellId :=
  match s.desc d with
  | some x => x.chain
  | none => []

/-- The copy count (R34, Law 6). -/
def Descriptor.copyCount (x : Descriptor) : Nat := x.copies.toList.countP Option.isSome

/-- The copy of frame `d` at output `p` leaves the copy set; with the last copy the descriptor goes to FREE
(R46). Taking it from its queue or slot is the caller's. -/
def State.releaseCopy (s : State) (p : Port) (d : DescId) : State :=
  match s.desc d with
  | none => s
  | some x =>
    match x.copies.get p with
    | none => s
    | some _ =>
      let y : Descriptor := { x with copies := x.copies.set p none }
      if y.copyCount = 0 then s.freeDesc d else s.setDesc d (some y)

/-- The copy of frame `d` at output `p` becomes DEPARTING (R45). -/
def State.markDeparting (s : State) (p : Port) (d : DescId) : State :=
  match s.desc d with
  | none => s
  | some x =>
    match x.copies.get p with
    | none => s
    | some c => s.setDesc d (some { x with copies := x.copies.set p (some { c with state := .departing }) })

/-- Copies released at output `p`, one after another. -/
def State.releaseAll (s : State) (p : Port) : List DescId → State
  | [] => s
  | d :: rest => (s.releaseCopy p d).releaseAll p rest

/-! ## Counters and records -/

/-- A counter raised by n, staying at 4294967295 once there (R174). -/
def satAdd (c : Count32) (n : Nat) : Count32 := BitVec.ofNat 32 (min (c.toNat + n) 0xFFFFFFFF)

/-- FRAMES_IN of port `p` rises by 1 (R175). -/
def State.countFrameIn (s : State) (p : Port) : State :=
  let c := s.counters.get p
  { s with counters := s.counters.set p { c with framesIn := satAdd c.framesIn 1 } }

/-- DISCARDS_IN of port `p` rises by 1 (R175). -/
def State.countDiscard (s : State) (p : Port) : State :=
  let c := s.counters.get p
  { s with counters := s.counters.set p { c with discardsIn := satAdd c.discardsIn 1 } }

/-- FRAMES_OUT of output `p` rises by 1 (R176). -/
def State.countDelivered (s : State) (p : Port) : State :=
  let c := s.counters.get p
  { s with counters := s.counters.set p { c with framesOut := satAdd c.framesOut 1 } }

/-- COPIES_LOST of output `p` rises by n (R176). -/
def State.countLost (s : State) (p : Port) (n : Nat) : State :=
  let c := s.counters.get p
  { s with counters := s.counters.set p { c with copiesLost := satAdd c.copiesLost n } }

/-- LINK_FAULTS of link `p` rises by 1 (R177). -/
def State.countLinkFault (s : State) (p : LinkId) : State :=
  { s with linkFaults := s.linkFaults.set p (satAdd (s.linkFaults.get p) 1) }

/-- A record is made: it takes the next SEQ and joins the tail, or is lost to overflow when the list holds
16 (R166 to R168). The SEQ of `r` is not read. -/
def RecordLog.append (l : RecordLog) (r : Record) : RecordLog :=
  if l.list.length < Config.recordCap then
    { l with list := l.list ++ [{ r with seq := l.nextSeq }], nextSeq := l.nextSeq + 1 }
  else
    { l with nextSeq := l.nextSeq + 1, overflow := min (l.overflow + 1) Config.overflowMax }

/-- A record appended to the part's list. -/
def State.record (s : State) (r : Record) : State := { s with records := s.records.append r }

/-- DEST and LENGTH of a header, as a record carries them. -/
def Header.report (h : Header) : Byte × Word := (h.dest, h.length)

/-- The record of a frame's loss: its cause, its source, the output for a refused member or a stall, and DEST
and LENGTH when known (R169). -/
def frameRecord (cause : Code) (source : Port) (output : Option Port) (h : Option Header) : Record :=
  ⟨0, cause, some source, output, h.map Header.report, none, none⟩

/-- The LINK_LOST record of output `p` (R91). -/
def linkLostRecord (p : Port) (n : Nat) : Record :=
  ⟨0, .linkLost, none, some p, none, some n, none⟩

/-- The LINK_FAULT record of link `p` (R115). `lost` says whether a frame in progress was lost, and its
header when known. -/
def linkFaultRecord (p : LinkId) (kind : FaultKind) (lost : Option (Option Header)) (cut : Bool) : Record :=
  ⟨0, .linkFault, some p.port, some p.port, (lost.bind id).map Header.report, none,
    some ⟨kind, lost.isSome, cut⟩⟩

end Sys2Proof.Machine
end

