-- ==== Sys2Proof/Machine/Queues.lean ====
section
/-! DEFINITION. Output queues: the timer code, the choice of the next copy, purges and cuts (chapter 5). -/

namespace Sys2Proof.Machine

/-- The duration in µs of a stall or hold code that is not 0 (R80). -/
def timerCodeUs (code : Byte) : Nat :=
  if code.toNat ≤ 127 then code.toNat * 100 else (code.toNat - 127) * 10000

/-- A timer started with a code: code 0 starts none (R80). -/
def timerOfCode (code : Byte) : Timer :=
  if code = 0 then .stopped else .running (timerCodeUs code)

/-- Whether a timer runs. -/
def Timer.isRunning : Timer → Bool
  | .stopped => false
  | .running _ => true

/-- The copies queued at an output, in the order a purge releases them: EXPRESS from head to tail, then
STANDARD (R89). -/
def Output.queued (o : Output) : List DescId := o.express ++ o.standard

/-- The class queue of a class. -/
def Output.queue (o : Output) : Class → List DescId
  | .express => o.express
  | .standard => o.standard

/-- Pending copies of an output: QUEUED in both queues, plus 1 for a DEPARTING copy (R65). -/
def Output.pendingCopies (o : Output) : Nat :=
  o.express.length + o.standard.length + if o.departing.isSome then 1 else 0

/-- A copy joins the tail of its class queue (R76). -/
def Output.append (o : Output) (d : DescId) : Class → Output
  | .express => { o with express := o.express ++ [d] }
  | .standard => { o with standard := o.standard ++ [d] }

/-- Whether rule 1 of R82 takes the EXPRESS head, if there is one. -/
def Output.expressTurn (o : Output) : Bool :=
  o.standard.isEmpty || decide (o.yieldCount = 0) || decide (o.yieldRun < o.yieldCount)

/-- The yield run after an EXPRESS head is taken (R83). -/
def Output.runAfterExpress (o : Output) : Nat :=
  if o.standard.isEmpty then 0 else if o.yieldCount = 0 then 0 else o.yieldRun + 1

/-- The next copy an output takes, its class, and the output without it, its yield run changed (R82, R83). -/
def Output.takeNext (o : Output) : Option (DescId × Class × Output) :=
  match o.express, o.standard with
  | e :: es, [] => some (e, .express, { o with express := es, yieldRun := o.runAfterExpress })
  | e :: es, t :: ts =>
    if o.expressTurn then some (e, .express, { o with express := es, yieldRun := o.runAfterExpress })
    else some (t, .standard, { o with standard := ts, yieldRun := 0 })
  | [], t :: ts => some (t, .standard, { o with standard := ts, yieldRun := 0 })
  | [], [] => none

/-- The stall timer of link `p`'s output stopped (R86). -/
def State.stopStall (s : State) (p : LinkId) : State :=
  s.setLinkOut p { s.linkOuts.get p with stallTimer := .stopped }

/-- The departing slot of output `p` emptied. -/
def State.clearSlot (s : State) (p : Port) : State :=
  s.setOut p { s.outs.get p with departing := none }

/-- The departing copy of link `p`'s output, if any, leaves its slot and is released; the stall timer stops
(R46, R86). What it counts as, and what is still sent, is the caller's. -/
def State.dropDeparting (s : State) (p : LinkId) : State :=
  match (s.outs.get p.port).departing with
  | none => s
  | some dep => ((s.clearSlot p.port).stopStall p).releaseCopy p.port dep.desc

/-- A purge of output `p`: every QUEUED copy released, EXPRESS first (R89). -/
def State.purge (s : State) (p : Port) : State :=
  let o := s.outs.get p
  (s.setOut p { o with express := [], standard := [] }).releaseAll p o.queued

/-- A purge of link `p`'s output at the end of its hold or at a fault with hold code 0: one LINK_LOST record
and the count when a copy is released (R90, R91). -/
def State.purgeLost (s : State) (p : LinkId) : State :=
  let n := (s.outs.get p.port).queued.length
  let t := s.purge p.port
  if n = 0 then t else (t.countLost p.port n).record (linkLostRecord p.port n)

/-- The queue state and hold timer of link `p`'s output set. -/
def State.setQueueState (s : State) (p : LinkId) (q : QueueState) (hold : Timer) : State :=
  s.setLinkOut p { s.linkOuts.get p with queueState := q, holdTimer := hold }

end Sys2Proof.Machine
end

