-- ==== Sys2Proof/Machine/Resolve.lean ====
section
/-! DEFINITION. Route resolution: one completed frame becomes copies or a discard (chapter 4). -/

namespace Sys2Proof.Machine

/-- Destination Table entry of a DEST. -/
def State.entry (s : State) (dest : Byte) : Entry := s.table[dest.toNat]'dest.isLt

/-- The rotation pointer of the entry of a DEST. -/
def State.pointer (s : State) (dest : Byte) : Port := s.rotation[dest.toNat]'dest.isLt

/-- The members of a port set in rising order (section 11.4). -/
def members (ports : BitVec 7) : List Port := Port.all.filter fun p => ports.getLsbD p.num

/-- The port set of a list of ports. -/
def portSet (ps : List Port) : Nat := (ps.map fun p => 2 ^ p.num).sum

/-- The class of the copies an entry makes (R59). -/
def copyClass (rule : ClassRule) (cls : Class) : Class :=
  match rule with
  | .keep => cls
  | .forceExpress => .express
  | .forceStandard => .standard

/-- Self step: the frame's own source with its reflect off (R60). -/
def State.selfExcluded (s : State) (source p : Port) : Bool := decide (p = source) && !s.reflect source

/-- Hop step: a link, for a frame whose stored HOPS is 0 (R60). -/
def hopExcluded (hops : BitVec 4) (p : Port) : Bool := p.link?.isSome && decide (hops = 0)

/-- Closed step (R60). -/
def State.closedExcluded (s : State) (p : Port) : Bool := decide (s.queueState p = .closed)

/-- Full step: the class queue holds 32 copies (R60). -/
def State.fullExcluded (s : State) (cls : Class) (p : Port) : Bool :=
  decide (Config.queueCap ≤ ((s.outs.get p).queue cls).length)

/-- The four exclusion steps in their order: the candidates, or the cause that the step removing the last
remaining member names (R60, R68). -/
def State.candidates (s : State) (source : Port) (hops : BitVec 4) (cls : Class) (ms : List Port) :
    Except Code (List Port) :=
  let m1 := ms.filter fun p => !s.selfExcluded source p
  let m2 := m1.filter fun p => !hopExcluded hops p
  let m3 := m2.filter fun p => !s.closedExcluded p
  let m4 := m3.filter fun p => !s.fullExcluded cls p
  if m1.isEmpty then .error .selfRoute
  else if m2.isEmpty then .error .hopExpired
  else if m3.isEmpty then .error .portClosed
  else if m4.isEmpty then .error .queueFull
  else .ok m4

/-- The refused members of a FANOUT in rising port order, each with the step that removed it; those of the
self and hop steps are left out (R67, R69). -/
def State.refusedMembers (s : State) (source : Port) (hops : BitVec 4) (cls : Class) (ms : List Port) :
    List (Port × Code) :=
  ms.filterMap fun p =>
    if s.selfExcluded source p || hopExcluded hops p then none
    else if s.closedExcluded p then some (p, .portClosed)
    else if s.fullExcluded cls p then some (p, .queueFull)
    else none

/-- The ports from pointer + 1 upward, port 6 followed by port 0 (R65). -/
def rotationOrder (pointer : Port) : List Port :=
  ((Port.all ++ Port.all).drop (pointer.num + 1)).take 7

/-- The SPREAD choice among candidates: OPEN before HELD, then the fewest pending copies, then rotation
(R65). -/
def State.spreadChoice (s : State) (pointer : Port) (cands : List Port) : Option Port :=
  let opened := cands.filter fun p => decide (s.queueState p = .opened)
  let kept := if opened.isEmpty then cands else opened
  let least := kept.filter fun p =>
    kept.all fun q => decide ((s.outs.get p).pendingCopies ≤ (s.outs.get q).pendingCopies)
  (rotationOrder pointer).find? fun p => least.contains p

/-- What a resolution decides. -/
inductive Decision where
  /-- The frame is discarded with this cause. -/
  | discard (cause : Code)
  /-- One copy for each output, in rising port order; the refused members; and the rotation pointer's new
  value for a SPREAD entry. -/
  | place (outputs : List Port) (refused : List (Port × Code)) (pointer : Option Port)
  deriving DecidableEq, Repr

/-- The decision by the entry's kind (R63 to R68). -/
def State.decideRoute (s : State) (source : Port) (h : Header) : Decision :=
  let e := s.entry h.dest
  let cls := copyClass e.rule h.cls
  let ms := members e.ports
  match e.kind with
  | .invalid => .discard .invalidDest
  | .single =>
    match s.candidates source h.hops cls ms with
    | .error c => .discard c
    | .ok cands => .place cands [] none
  | .spread =>
    match s.candidates source h.hops cls ms with
    | .error c => .discard c
    | .ok cands =>
      match s.spreadChoice (s.pointer h.dest) cands with
      | some p => .place [p] [] (some p)
      | none => .discard .queueFull
  | .fanout =>
    match s.candidates source h.hops cls ms with
    | .error c => .discard c
    | .ok cands => .place cands (s.refusedMembers source h.hops cls ms) none

/-- The copy of frame `d` appended at output `p` (R76), and entered in the copy set as QUEUED (R43). -/
def State.placeCopy (s : State) (d : DescId) (cls : Class) (p : Port) : State :=
  let t := s.setOut p ((s.outs.get p).append d cls)
  match t.desc d with
  | none => t
  | some x => t.setDesc d (some { x with state := .stored, copies := x.copies.set p (some ⟨cls, .queued⟩) })

/-- The copies appended in rising port order (R70). -/
def State.placeCopies (s : State) (d : DescId) (cls : Class) : List Port → State
  | [] => s
  | p :: rest => (s.placeCopy d cls p).placeCopies d cls rest

/-- One refused member reported: its output's COPIES_LOST rises, and a link source makes a record (R69). -/
def State.reportRefused (s : State) (source : Port) (h : Header) (m : Port × Code) : State :=
  let t := s.countLost m.1 1
  if source.link?.isSome then t.record (frameRecord m.2 source (some m.1) (some h)) else t

/-- The refused members reported in rising port order (R69, R172). -/
def State.reportAllRefused (s : State) (source : Port) (h : Header) : List (Port × Code) → State
  | [] => s
  | m :: rest => (s.reportRefused source h m).reportAllRefused source h rest

/-- The rotation pointer of an entry set (R66). -/
def State.setPointer (s : State) (dest : Byte) (p : Port) : State :=
  { s with rotation := s.rotation.set dest.toNat p dest.isLt }

/-- The resolution event for the completed frame in descriptor `d` (R58, R70): what was decided, and the
state after it. -/
def State.resolve (s : State) (d : DescId) (source : Port) (h : Header) : Decision × State :=
  let decision := s.decideRoute source h
  let t := s.countFrameIn source
  match decision with
  | .discard cause =>
    let u := (t.freeDesc d).countDiscard source
    (decision, if source.link?.isSome then u.record (frameRecord cause source none (some h)) else u)
  | .place outputs refused pointer =>
    let u := t.placeCopies d (copyClass (s.entry h.dest).rule h.cls) outputs
    let v := match pointer with
      | some p => u.setPointer h.dest p
      | none => u
    (decision, v.reportAllRefused source h refused)

end Sys2Proof.Machine
end

