-- ==== Sys2Proof/Machine/Links.lean ====
section
/-! DEFINITION. The link state machine: entry to each state, the loss of a frame in assembly, faults, and the
three actions of LINK_CONTROL (chapter 6). -/

namespace Sys2Proof.Machine

/-- Symbol time in ns at a rate: ten bit times (R108). -/
def symbolTimeNs : Rate → Nat
  | .mbit100 => 100 | .mbit50 => 200 | .mbit25 => 400 | .mbit10 => 1000

/-- A link changed by a function. -/
def State.modLink (s : State) (p : LinkId) (f : LinkPort → LinkPort) : State :=
  s.setLink p (f (s.links.get p))

/-- The LINK_CHANGE cause latched (R121). -/
def State.latchLinkChange (s : State) : State := { s with win := { s.win with linkChange := true } }

/-- Every character received in SYNC or RUN starts the silence timer from zero (R107). -/
def State.restartSilence (s : State) (p : LinkId) : State :=
  s.modLink p fun l => { l with silenceTimer := .running Config.silenceUs }

/-- What is lost when the frame in progress on a receiver is lost: nothing, or a frame with its header when
known (LOST_IN of R115). A frame sinking surplus was reported already. -/
def lostFrame (rx : Option RxFrame) : Option (Option Header) :=
  match rx with
  | none => none
  | some f =>
    match f.disposition with
    | .sinkingSurplus => none
    | .storing _ | .sinkingNoDescriptor => some f.header

/-- The frame in progress on link `p` is lost: a STORING frame's descriptor goes to FREE with its chain, and
the receiver is not in a frame (R114 step 2, R119). -/
def State.loseFrame (s : State) (p : LinkId) : State :=
  match (s.links.get p).rx with
  | none => s
  | some f =>
    let t := match f.disposition with
      | .storing d => s.freeDesc d
      | .sinkingNoDescriptor | .sinkingSurplus => s
    t.modLink p fun l => { l with rx := none }

/-- Entry to LISTEN (R101). -/
def State.enterListen (s : State) (p : LinkId) : State :=
  s.modLink p fun l =>
    { l with
      state := .listen
      rate := (s.linkOuts.get p).speed
      txCredit := 0
      restartRequest := false
      rx := none
      silenceTimer := .stopped
      syncTimer := .stopped
      recoveryTimer := .stopped }

/-- Entry to SYNC (R103). -/
def State.enterSync (s : State) (p : LinkId) : State :=
  s.modLink p fun l =>
    { l with
      state := .sync
      txCredit := 0
      syncTimer := .running Config.syncUs
      silenceTimer := .running Config.silenceUs
      rx := none
      syncStep := .hello }

/-- Entry to RUN with a transmit credit (R78, R104, R106): the output becomes OPEN, its hold timer stops, and
LINK_CHANGE is latched. The silence timer runs on from the character that moved the link. -/
def State.enterRun (s : State) (p : LinkId) (credit : Nat) : State :=
  let t := s.modLink p fun l =>
    { l with
      state := .run
      txCredit := credit
      syncTimer := .stopped
      silenceTimer := .running Config.silenceUs
      rx := none }
  (t.setQueueState p .opened .stopped).latchLinkChange

/-- What link `p`'s output does when the link enters FAULTED from RUN (R90). -/
def State.outputAtFault (s : State) (p : LinkId) : State :=
  let t := match (s.outs.get p.port).departing with
    | none => s
    | some _ => (s.dropDeparting p).countLost p.port 1
  let hold := (s.linkOuts.get p).holdCode
  if hold = 0 then (t.purgeLost p).setQueueState p .closed .stopped
  else t.setQueueState p .held (timerOfCode hold)

/-- Entry to FAULTED, from SYNC or RUN (R114): transmitter, receiver, reserve and credit, timers, report,
output, in that order. `lost` is what the fault loses on the receive side. -/
def State.enterFaulted (s : State) (p : LinkId) (kind : FaultKind) (lost : Option (Option Header)) : State :=
  let fromRun := decide ((s.links.get p).state = .run)
  let cut := fromRun && (s.outs.get p.port).departing.isSome
  let t := ((s.loseFrame p).returnReserve p).modLink p fun l =>
    { l with
      state := .faulted
      restartRequest := decide (kind = .restartReq)
      txCredit := 0
      silenceTimer := .stopped
      syncTimer := .stopped
      recoveryTimer := .running Config.recoveryUs
      endCutOwed := false
      line := none }
  let u := if kind = .restartReq then t else t.record (linkFaultRecord p kind lost cut)
  let v := (u.countLinkFault p).latchLinkChange
  if fromRun then v.outputAtFault p else v

/-- A fault that loses whatever frame is in progress. -/
def State.fault (s : State) (p : LinkId) (kind : FaultKind) : State :=
  s.enterFaulted p kind (lostFrame (s.links.get p).rx)

/-! ## The actions of LINK_CONTROL -/

/-- ENABLE (R117). -/
def State.enableLink (s : State) (p : LinkId) : State :=
  match (s.links.get p).state with
  | .disabled => s.enterListen p
  | .listen | .sync | .run => s
  | .faulted =>
    match (s.links.get p).recoveryTimer with
    | .running _ => s.modLink p fun l => { l with restartRequest := true }
    | .stopped => s.enterListen p

/-- RESTART of a link that is not DISABLED (R118). -/
def State.restartLink (s : State) (p : LinkId) : State :=
  match (s.links.get p).state with
  | .disabled | .listen => s
  | .sync | .run => s.fault p .restartReq
  | .faulted => s.enableLink p

/-- Whether a DISABLE of link `p`, or a PORT_FLUSH of its output, owes END_CUT: at least one DATA character
of the departing copy had gone (R93). -/
def State.departureStarted (s : State) (p : LinkId) : Bool :=
  match (s.outs.get p.port).departing with
  | some dep => decide (0 < dep.position)
  | none => false

/-- The number of copies a DISABLE or a PORT_FLUSH of output `p` cuts and purges (R93, R94). -/
def State.copiesAt (s : State) (p : Port) : Nat :=
  (s.outs.get p).queued.length + if (s.outs.get p).departing.isSome then 1 else 0

/-- A link that is not DISABLED goes to DISABLED (R119, R93): the link's part, then the output's. An END_CUT owed
by a link in RUN is the last character on the pair. -/
def State.closeLink (s : State) (p : LinkId) : State :=
  let l0 := s.links.get p
  let fromRun := decide (l0.state = .run)
  let endCut := fromRun && (l0.endCutOwed || s.departureStarted p)
  let t := ((s.loseFrame p).returnReserve p).modLink p fun l =>
    { l with
      state := .disabled
      restartRequest := false
      txCredit := 0
      silenceTimer := .stopped
      syncTimer := .stopped
      recoveryTimer := .stopped
      endCutOwed := false
      line := if endCut then some .endCut else none }
  let u := if fromRun then t.latchLinkChange else t
  (((u.dropDeparting p).purge p.port).countLost p.port (s.copiesAt p.port)).setQueueState p
    .closed .stopped

/-- DISABLE (R119). A DISABLED link changes nothing (R102), so an END_CUT that the DISABLE before left on its pair
stays there until the next TRANSMIT_CHARACTER (notes/assumptions/9.md). -/
def State.disableLink (s : State) (p : LinkId) : State :=
  match (s.links.get p).state with
  | .disabled => s
  | .listen | .sync | .run | .faulted => s.closeLink p

end Sys2Proof.Machine
end

