-- ==== Sys2Proof/Machine/Flags.lean ====
section
/-! DEFINITION. What the part shows at its edges: the levels, the status and cause words, the interrupt output, the
bits on each transmit pair, and what a read strobe at each word address returns (chapter 7, R178, R180). -/

namespace Sys2Proof.Machine

/-- HOSTQ: port 0's queues hold a QUEUED copy (R76). -/
def State.hostq (s : State) : Bool := !(s.outs.p0.express.isEmpty && s.outs.p0.standard.isEmpty)

/-- RECORDS: the record list holds a record (R173). -/
def State.recordsLevel (s : State) : Bool := !s.records.list.isEmpty

/-- POOL_LOW: the free list is shorter than F (R31). -/
def State.poolLow (s : State) : Bool := decide (s.pool.freeList.length < s.pool.floor)

/-- RDY: the window is out of initialisation (R126, R127). -/
def Engine.rdy : Engine → Bool
  | .initialising => false
  | .idle | .executingSend _ | .executingClear _ | .writePhase _ _ | .readPhase _ => true

/-- BUSY: INITIALISING or EXECUTING (R126, R127). -/
def Engine.busy : Engine → Bool
  | .initialising | .executingSend _ | .executingClear _ => true
  | .idle | .writePhase _ _ | .readPhase _ => false

/-- XREQ: in a data phase (R126, R127). -/
def Engine.xreq : Engine → Bool
  | .writePhase _ _ | .readPhase _ => true
  | .initialising | .idle | .executingSend _ | .executingClear _ => false

/-- The value of a code in ERROR and in a record's CAUSE (section 11.4). -/
def codeValue : Code → Nat
  | .ok => 0
  | .noDescriptor => 1 | .invalidDest => 2 | .selfRoute => 3 | .hopExpired => 4 | .portClosed => 5
  | .queueFull => 6 | .checkFail => 7 | .lengthMismatch => 8 | .cutIn => 9 | .stalled => 10
  | .linkLost => 11 | .linkFault => 12
  | .badCommand => 16 | .badParam => 17 | .badState => 18 | .anchored => 19 | .linksActive => 20
  | .poolLow => 21 | .holdLimit => 22 | .queueEmpty => 23 | .noRecord => 24 | .noTransfer => 25
  | .aborted => 26

/-- The value of a link state (section 11.4). -/
def linkStateValue : LinkState → Nat
  | .disabled => 0 | .listen => 1 | .sync => 2 | .run => 3 | .faulted => 4

/-- A word with the given bits set. -/
def wordOfBits (bits : List (Nat × Bool)) : Word :=
  bits.foldl (fun w b => if b.2 then w ||| (1#16 <<< b.1) else w) 0

/-- The STATUS word (R126, R180). -/
def State.statusWord (s : State) : Word :=
  wordOfBits [(0, s.win.engine.rdy), (1, s.win.engine.busy), (2, s.win.engine.xreq),
    (3, decide (s.win.error ≠ .ok)), (4, s.win.overrun),
    (8, s.hostq), (9, s.recordsLevel), (10, s.poolLow)]

/-- The IRQ_CAUSE word (R136, R180). -/
def State.causeWord (s : State) : Word :=
  wordOfBits [(0, s.win.cmdDone), (1, s.win.dataReq), (2, s.win.linkChange),
    (8, s.hostq), (9, s.recordsLevel), (10, s.poolLow)]

/-- The bits of the six causes (R180). -/
def causeMask : Word := 0x0707#16

/-- IRQ# is driven low: the master enable is on and a cause is both set and enabled, and no hard reset is
applied (R137, R140). -/
def State.irqLow (s : State) : Bool :=
  !s.win.resetApplied && s.win.masterEnable && decide (s.causeWord &&& s.win.irqEnable ≠ 0)

/-- The LINKSTATE word: three fields of two links each (R180). -/
def State.linkStateWord (s : State) : Word :=
  let v (p : LinkId) : Nat := linkStateValue (s.links.get p).state
  BitVec.ofNat 16 ((5 * v .l1 + v .l2) + 32 * (5 * v .l3 + v .l4) + 1024 * (5 * v .l5 + v .l6))

/-- The bits that link `p`'s transmitter puts on its pair in the present symbol time, in their order; none while it
is silent (R108, R178). -/
def State.pairBits (s : State) (p : LinkId) : List Bool :=
  match (s.links.get p).line with
  | some c => serialBits c.symbol
  | none => []

/-- Payload byte j of a frame, which is its stored byte 4 + j (R130). -/
def State.payloadByte (s : State) (d : DescId) (j : Nat) : Byte := s.frameByte (s.chainOf d) (4 + j)

/-- Word i of a read phase; the low half of an odd frame's last word reads as 0 (R130, R132). -/
def State.payloadWord (s : State) (d : DescId) (i : Nat) : Word :=
  s.payloadByte d (2 * i) ++
    (if 2 * i + 1 < (s.headerOf d).length.toNat then s.payloadByte d (2 * i + 1) else 0)

/-- What a read of DATA returns: the next word in a read phase, 0 otherwise (R131 to R133). -/
def State.dataWord (s : State) : Word :=
  match s.win.engine with
  | .readPhase cursor =>
    match s.outs.p0.departing with
    | some dep => s.payloadWord dep.desc cursor
    | none => 0
  | _ => 0

/-- What a read strobe at a word address returns (section 11.3, R125). While a hard reset is applied every
register but ID and LINKSTATE reads 0 (R140). -/
def State.readRegister (s : State) (address : BitVec 4) : Word :=
  match address.toNat with
  | 14 => s.linkStateWord
  | 15 => Config.idWord
  | n =>
    if s.win.resetApplied then 0
    else match n with
      | 0 => s.statusWord
      | 1 => BitVec.ofNat 16 (codeValue s.win.error)
      | 2 => s.causeWord
      | 3 => s.win.irqEnable
      | 5 => s.win.params.w0
      | 6 => s.win.params.w1
      | 7 => s.win.params.w2
      | 8 => s.win.params.w3
      | 9 => s.win.results.w0
      | 10 => s.win.results.w1
      | 11 => s.win.results.w2
      | 12 => s.win.results.w3
      | 13 => s.dataWord
      | _ => 0

end Sys2Proof.Machine
end

