-- ==== Sys2Proof/Machine/Operands.lean ====
section
/-! DEFINITION. The layouts of the parameter words (R181) and of the result words (R182). -/

namespace Sys2Proof.Machine

/-! ## Parameter words -/

/-- A port number given as a whole word (R181). -/
def portOfWord (w : Word) : Option Port := Port.ofNum? w.toNat

/-- A link number given as a whole word: port 0 is no link (R152). -/
def linkOfWord (w : Word) : Option LinkId := (portOfWord w).bind Port.link?

/-- CLASS as a whole word (R181). -/
def classOfWord (w : Word) : Option Class :=
  match w.toNat with
  | 0 => some .standard
  | 1 => some .express
  | _ => none

/-- An entry kind as a whole word (R181). -/
def kindOfWord (w : Word) : Option EntryKind :=
  match w.toNat with
  | 0 => some .invalid
  | 1 => some .single
  | 2 => some .spread
  | 3 => some .fanout
  | _ => none

/-- A class rule as a whole word (R181). -/
def ruleOfWord (w : Word) : Option ClassRule :=
  match w.toNat with
  | 0 => some .keep
  | 1 => some .forceExpress
  | 2 => some .forceStandard
  | _ => none

/-- A port set as a whole word: a set bit above bit 6 names a port above 6 (R181). -/
def portsOfWord (w : Word) : Option (BitVec 7) := if w.toNat < 128 then some (w.setWidth 7) else none

/-- The three actions of LINK_CONTROL (R152). -/
inductive LinkAction where
  | enable | disable | restart
  deriving DecidableEq, Repr

/-- An action code as a whole word (section 11.4). -/
def actionOfWord (w : Word) : Option LinkAction :=
  match w.toNat with
  | 1 => some .enable
  | 2 => some .disable
  | 3 => some .restart
  | _ => none

/-- A speed field, bits 6 to 4 of PARAM3 (R181); 4 to 7 name no rate. -/
def speedOfWord (w : Word) : Option Rate :=
  match (w.extractLsb' 4 3).toNat with
  | 0 => some .mbit100
  | 1 => some .mbit50
  | 2 => some .mbit25
  | 3 => some .mbit10
  | _ => none

/-- The five counters READ_COUNTER names (R158). -/
inductive CounterName where
  | framesIn | discardsIn | framesOut | copiesLost | linkFaults
  deriving DecidableEq, Repr

/-- A counter code as a whole word (section 11.4). -/
def counterOfWord (w : Word) : Option CounterName :=
  match w.toNat with
  | 0 => some .framesIn
  | 1 => some .discardsIn
  | 2 => some .framesOut
  | 3 => some .copiesLost
  | 4 => some .linkFaults
  | _ => none

/-! ## Result words -/

/-- The four results from four numbers. -/
def results (a b c d : Nat) : Words4 :=
  ⟨BitVec.ofNat 16 a, BitVec.ofNat 16 b, BitVec.ofNat 16 c, BitVec.ofNat 16 d⟩

/-- 1 for yes, 0 for no. -/
def yesNo (b : Bool) : Nat := if b then 1 else 0

/-- The value of a queue state (section 11.4). -/
def queueStateValue : QueueState → Nat
  | .closed => 0 | .opened => 1 | .held => 2

/-- The value of an entry kind (section 11.4). -/
def kindValue : EntryKind → Nat
  | .invalid => 0 | .single => 1 | .spread => 2 | .fanout => 3

/-- The value of a class rule (section 11.4). -/
def ruleValue : ClassRule → Nat
  | .keep => 0 | .forceExpress => 1 | .forceStandard => 2

/-- The code of a fault kind in a record (section 11.4). RESTART_REQ makes no record. -/
def faultKindValue : FaultKind → Nat
  | .codeError => 0 | .silence => 1 | .syncTimeout => 2 | .protocol => 3 | .creditOverrun => 4
  | .rxOverrun => 5 | .oversize => 6 | .restartSeen => 7 | .restartReq => 0

/-- The six results of RECV and SKIP for the copy of frame `d` taken from a class queue (R147, R182). -/
def State.headerResults (s : State) (d : DescId) (cls : Class) : Words4 :=
  let h := s.headerOf d
  let source := match s.desc d with
    | some x => x.source.num
    | none => 0
  let stamp := match s.desc d with
    | some x => x.stamp.toNat
    | none => 0
  results (source + 16 * classCode cls + 256 * h.hops.toNat) h.dest.toNat h.length.toNat stamp

/-- The record word of TAKE_RECORD (R182). -/
def recordWord (r : Record) : Nat :=
  let port (p : Option Port) : Nat := match p with
    | some q => q.num
    | none => 7
  let fault : Nat := match r.fault with
    | some f => 2048 * faultKindValue f.kind + 16384 * yesNo f.lostIn + 32768 * yesNo f.cutOut
    | none => 0
  codeValue r.cause + 16 * port r.inPort + 128 * port r.outPort + 1024 * yesNo r.frame.isSome + fault

/-- The results of a TAKE_RECORD that ends with OK (R160, R182). -/
def recordResults (r : Record) (overflow : Nat) : Words4 :=
  let dest : Nat := match r.frame with
    | some f => f.1.toNat
    | none => 0
  let last : Nat := match r.frame, r.count with
    | some f, _ => f.2.toNat
    | none, some n => n
    | none, none => 0
  results r.seq.toNat (recordWord r) (dest + 256 * overflow) last

/-- The results of READ_PORT for a link (R155, R182). -/
def State.linkPortResults (s : State) (p : LinkId) : Words4 :=
  let o := s.outs.get p.port
  let q := s.pool.links.get p
  let l := s.links.get p
  results
    (queueStateValue (s.queueState p.port) + 8 * yesNo o.departing.isSome
      + 16 * linkStateValue l.state + 256 * l.txCredit)
    (o.express.length + 256 * o.standard.length)
    (s.pool.held.get p.port)
    (q.reserve.length + 256 * q.outstanding)

/-- The results of READ_PORT for port 0: departing reads no, and the link items read 0 (R155, R182). -/
def State.hostPortResults (s : State) : Words4 :=
  results (queueStateValue .opened) (s.outs.p0.express.length + 256 * s.outs.p0.standard.length)
    s.pool.held.p0 0

/-- The value of a counter; port 0 has no LINK_FAULTS (R158). -/
def State.counterValue (s : State) (p : Port) (c : CounterName) : Option Count32 :=
  match c with
  | .framesIn => some (s.counters.get p).framesIn
  | .discardsIn => some (s.counters.get p).discardsIn
  | .framesOut => some (s.counters.get p).framesOut
  | .copiesLost => some (s.counters.get p).copiesLost
  | .linkFaults => (p.link?).map s.linkFaults.get

end Sys2Proof.Machine
end

