-- ==== Sys2Proof/Machine/Engine.lean ====
section
/-! DEFINITION. The command engine: taking and discarding COMMAND writes, the start of a data phase, the end of
a command (R127 to R130, R141), and the initialisation that the two resets begin (R138, R140). -/

namespace Sys2Proof.Machine

/-- The window changed by a function. -/
def State.modWin (s : State) (f : Window → Window) : State := { s with win := f s.win }

/-- The engine set to a state. -/
def State.setEngine (s : State) (e : Engine) : State := s.modWin fun w => { w with engine := e }

/-- A command is taken in IDLE: ERROR becomes OK, OVERRUN is cleared, and PARAM0 to PARAM3 are copied for
the command's use (R128). BUSY and the engine state follow from what the command does in the same event. -/
def State.take (s : State) : State :=
  s.modWin fun w => { w with error := .ok, overrun := false, taken := w.params }

/-- A command ends with a code and its results: IDLE, ERROR, the RESULT registers, CMD_DONE (R129). -/
def State.endCommand (s : State) (code : Code) (r : Words4) : State :=
  s.modWin fun w => { w with engine := .idle, error := code, results := r, cmdDone := true }

/-- A command ends with a code that gives no results (R135). -/
def State.endPlain (s : State) (code : Code) : State := s.endCommand code Words4.zero

/-- A data phase begins: XREQ and DATA_REQ (R130). -/
def State.beginPhase (s : State) (e : Engine) : State :=
  s.modWin fun w => { w with engine := e, dataReq := true }

/-- A COMMAND write of a code other than ABORT (R128): taken in IDLE, discarded with OVERRUN otherwise, and
ignored while a hard reset is applied (R140). `run` is what the command does once taken. -/
def State.commandWrite (s : State) (run : State → State) : State :=
  if s.win.resetApplied then s
  else match s.win.engine with
    | .idle => run s.take
    | .initialising | .executingSend _ | .executingClear _ | .writePhase _ _ | .readPhase _ =>
      s.modWin fun w => { w with overrun := true }

/-! ## Resets -/

/-- Every part of the device at its hard-reset values (R32, R50, R74, R98, R124, R140, R173, R174), but for
two things that are no such part: the bytes of the cells, which a cell that leaves a chain keeps (R15,
notes/assumptions/2.md), and the commands that wait. No rule gives the data bus a word after a reset: that it is 0
again is the model's choice (notes/assumptions/9.md), as are the other words of notes/assumptions/13.md. -/
def State.hardResetValues (s : State) : State :=
  { State.reset with cells := s.cells, pending := s.pending }

/-- A soft reset (R138): as a hard reset, but for the table's contents, the pool settings, the output settings,
IRQ_ENABLE and the master enable. LINK_FAULTS is 0 afterwards by R174 and R138, though R124 says that it does not
change at a soft reset: the model reads R124 as counting no fault there (notes/assumptions/22.md). That the data bus is
0 again is the model's choice too (notes/assumptions/9.md). -/
def State.softResetValues (s : State) : State :=
  let keepOut (o : Output) : Output := { Output.reset with yieldCount := o.yieldCount }
  let keepLink (o : LinkOutput) : LinkOutput :=
    { o with queueState := .closed, holdTimer := .stopped, stallTimer := .stopped }
  let r := s.hardResetValues
  { r with
    pool := { r.pool with
      floor := s.pool.floor, advance := s.pool.advance, holdLimit := s.pool.holdLimit }
    table := s.table
    outs := ⟨keepOut s.outs.p0, keepOut s.outs.p1, keepOut s.outs.p2, keepOut s.outs.p3,
      keepOut s.outs.p4, keepOut s.outs.p5, keepOut s.outs.p6⟩
    linkOuts := ⟨keepLink s.linkOuts.l1, keepLink s.linkOuts.l2, keepLink s.linkOuts.l3,
      keepLink s.linkOuts.l4, keepLink s.linkOuts.l5, keepLink s.linkOuts.l6⟩
    win := { r.win with irqEnable := s.win.irqEnable, masterEnable := s.win.masterEnable } }

/-- A word written to CONTROL (R138): bit 15 is the soft reset request, bit 0 the master enable (R180). The
write is ignored while a hard reset is applied (R140). -/
def State.controlWrite (s : State) (word : Word) : State :=
  if s.win.resetApplied then s
  else if word.getLsbD 15 then s.softResetValues
  else s.modWin fun w => { w with masterEnable := word.getLsbD 0 }

end Sys2Proof.Machine
end

