-- ==== Sys2Proof/Machine/Window.lean ====
section
/-! DEFINITION. The host's register accesses that have rows of their own, the end of the two timed engine
periods, the resolution of a SEND, and the resets (R125, R131 to R140, R145, R146, R161). -/

namespace Sys2Proof.Machine

/-! ## Resets -/

/-- HARD_RESET (R140): every part at its hard-reset values, and the reset stays applied until RESET_RELEASE. -/
def execHardReset (s : State) : Answer :=
  .next (s.hardResetValues.modWin fun w => { w with resetApplied := true })

/-- RESET_RELEASE (R140): the window leaves the applied hard reset and enters initialisation with the listed
values. With no reset applied there is nothing to release. -/
def execResetRelease (s : State) : Answer :=
  .next <|
    if s.win.resetApplied then
      s.modWin fun _ => Window.reset
    else s

/-- SOFT_RESET: the CONTROL write of a word whose soft reset request is set (R138). -/
def execSoftReset (word : Word) (s : State) : Answer := .next (s.controlWrite word)

/-- MASTER_ENABLE_WRITE: the CONTROL write of a word whose soft reset request is 0 (R138). -/
def execMasterEnableWrite (word : Word) (s : State) : Answer := .next (s.controlWrite word)

/-- INITIALISATION_END (R140): RDY is set and BUSY cleared; OVERRUN and the causes stay as they are. -/
def execInitialisationEnd (s : State) : Answer :=
  .next <|
    if s.win.resetApplied then s
    else match s.win.engine with
      | .initialising => s.setEngine .idle
      | .idle | .executingSend _ | .executingClear _ | .writePhase _ _ | .readPhase _ => s

/-- CLEAR_SWITCH_END (R161): the command ends with OK and the number of frames cleared. -/
def execClearSwitchEnd (s : State) : Answer :=
  .next <| match s.win.engine with
    | .executingClear n => s.endCommand .ok (results n 0 0 0)
    | .initialising | .idle | .executingSend _ | .writePhase _ _ | .readPhase _ => s

/-! ## Register accesses -/

/-- IRQ_CAUSE_WRITE (R136): ones in the positions of latched causes clear them; nothing else has effect. -/
def execIrqCauseWrite (word : Word) (s : State) : Answer :=
  .next <|
    if s.win.resetApplied then s
    else s.modWin fun w =>
      { w with
        cmdDone := w.cmdDone && !word.getLsbD 0
        dataReq := w.dataReq && !word.getLsbD 1
        linkChange := w.linkChange && !word.getLsbD 2 }

/-- REGISTER_WRITE (R125, R135, R137): PARAM0 to PARAM3 and IRQ_ENABLE store the word, IRQ_ENABLE its six
flags alone (R180); a write to any other register of this row is ignored. -/
def execRegisterWrite (reg : PlainReg) (word : Word) (s : State) : Answer :=
  .next <|
    if s.win.resetApplied then s
    else match reg with
      | .param0 => s.modWin fun w => { w with params := { w.params with w0 := word } }
      | .param1 => s.modWin fun w => { w with params := { w.params with w1 := word } }
      | .param2 => s.modWin fun w => { w with params := { w.params with w2 := word } }
      | .param3 => s.modWin fun w => { w with params := { w.params with w3 := word } }
      | .irqEnable => s.modWin fun w => { w with irqEnable := word &&& causeMask }
      | .error | .result0 | .result1 | .result2 | .result3 | .linkState | .id => s

/-- Payload word number `cursor` written into the SEND frame's cells; the low byte counts only below LENGTH
(R130, R131). -/
def State.storePayload (s : State) (d : DescId) (cursor : Nat) (word : Word) : State :=
  let chain := s.chainOf d
  let t := s.writeFrameByte chain (4 + 2 * cursor) (word.extractLsb' 8 8)
  if 2 * cursor + 1 < (s.headerOf d).length.toNat then
    t.writeFrameByte chain (4 + 2 * cursor + 1) (word.extractLsb' 0 8)
  else t

/-- DATA_WRITE (R131, R133): in WRITE_PHASE the next payload word is stored, and the last one completes the
frame; elsewhere the write is ignored. -/
def execDataWrite (word : Word) (s : State) : Answer :=
  .next <|
    if s.win.resetApplied then s
    else match s.win.engine with
      | .writePhase d cursor =>
        let t := s.storePayload d cursor word
        if wordsFor (s.headerOf d).length.toNat ≤ cursor + 1 then t.setEngine (.executingSend d)
        else t.setEngine (.writePhase d (cursor + 1))
      | .initialising | .idle | .executingSend _ | .executingClear _ | .readPhase _ => s

/-- The copy in port 0's departing slot leaves it and is released (R95, R96). -/
def State.dropHostCopy (s : State) (dep : Departure) : State :=
  (s.clearSlot .p0).releaseCopy .p0 dep.desc

/-- DATA_READ (R132, R133): the word read is driven on the bus. In READ_PHASE the cursor rises by 1, and the
read of the last word delivers the copy and ends RECV with its header results unchanged. -/
def execDataRead (s : State) : Answer :=
  .next <|
    let t := s.modWin fun w => { w with dataBus := s.readRegister 13#4 }
    if s.win.resetApplied then t
    else match s.win.engine with
      | .readPhase cursor =>
        match s.outs.p0.departing with
        | none => t
        | some dep =>
          if wordsFor (s.headerOf dep.desc).length.toNat ≤ cursor + 1 then
            ((t.dropHostCopy dep).countDelivered .p0).endCommand .ok s.win.results
          else t.setEngine (.readPhase (cursor + 1))
      | .initialising | .idle | .executingSend _ | .executingClear _ | .writePhase _ _ => t

/-- RESOLUTION (R145, R146, R71): the completed SEND frame is resolved, and SEND ends with the outcome. -/
def execResolution (s : State) : Answer :=
  .next <| match s.win.engine with
    | .executingSend d =>
      let stamp := match s.desc d with
        | some x => x.stamp.toNat
        | none => 0
      match s.resolve d .p0 (s.headerOf d) with
      | (.discard cause, t) => t.endPlain cause
      | (.place outputs refused _, t) =>
        t.endCommand .ok (results (portSet outputs) refused.length stamp 0)
    | .initialising | .idle | .executingClear _ | .writePhase _ _ | .readPhase _ => s

end Sys2Proof.Machine
end

