-- ==== Sys2Proof/Machine/FrameCommands.lean ====
section
/-! DEFINITION. SEND, RECV, SKIP, ABORT (sections 8.3 and 8.4) and the write of an unknown code (R143). -/

namespace Sys2Proof.Machine

/-- The frame of a SEND allocated (R29, R38, R144): k cells from the head of the free list, in list order, as
the chain of descriptor `d`; the header bytes stored (R4); then the write phase, or completion at once when
LENGTH is 0 (R145). -/
def State.beginSend (s : State) (d : DescId) (h : Header) (k : Nat) : State :=
  let chain := s.pool.freeList.take k
  let t := { s with pool := { s.pool with
    freeList := s.pool.freeList.drop k
    held := s.pool.held.set .p0 (s.pool.held.p0 + k) } }
  let u := (t.allocate d .p0 (some h) chain).writeFrameBytes chain 0 (headerBytes h)
  if h.length = 0 then u.setEngine (.executingSend d) else u.beginPhase (.writePhase d 0)

/-- SEND once taken: the checks of R144 in order. -/
def State.runSend (s : State) : State :=
  let w := s.win.taken
  let length := w.w3.toNat
  match classOfWord w.w1 with
  | none => s.endPlain .badParam
  | some cls =>
    if Config.maxPayload < length ∨ 15 < w.w2.toNat then s.endPlain .badParam
    else match s.lowestFree with
      | none => s.endPlain .noDescriptor
      | some d =>
        let k := cellsFor (4 + length)
        if s.pool.holdLimit.p0 < s.pool.held.p0 + k then s.endPlain .holdLimit
        else if s.pool.freeList.length < k then s.endPlain .poolLow
        else s.beginSend d ⟨w.w0.setWidth 8, cls, w.w2.setWidth 4, 0, w.w3⟩ k

/-- SEND (R144). -/
def execSend (s : State) : Answer := .next (s.commandWrite State.runSend)

/-- RECV once taken (R147): the copy selected becomes DEPARTING at port 0 and its header results are written;
with LENGTH 0 it is delivered at once, otherwise the read phase begins. -/
def State.runRecv (s : State) : State :=
  match s.outs.p0.takeNext with
  | none => s.endPlain .queueEmpty
  | some (d, cls, o) =>
    let r := s.headerResults d cls
    let dep : Departure := ⟨d, cls, 0, false⟩
    let t := (s.setOut .p0 { o with departing := some dep }).markDeparting .p0 d
    if (s.headerOf d).length = 0 then
      ((t.dropHostCopy dep).countDelivered .p0).endCommand .ok r
    else (t.modWin fun w => { w with results := r }).beginPhase (.readPhase 0)

/-- RECV (R147). -/
def execRecv (s : State) : Answer := .next (s.commandWrite State.runRecv)

/-- SKIP once taken (R149): the copy selected is released as lost without passing through DEPARTING. -/
def State.runSkip (s : State) : State :=
  match s.outs.p0.takeNext with
  | none => s.endPlain .queueEmpty
  | some (d, cls, o) =>
    (((s.setOut .p0 o).releaseCopy .p0 d).countLost .p0 1).endCommand .ok (s.headerResults d cls)

/-- SKIP (R149). -/
def execSkip (s : State) : Answer := .next (s.commandWrite State.runSkip)

/-- ABORT taken in a data phase (R134): OVERRUN is cleared and the command in progress ends with ABORTED. A
SEND's frame is dropped and its results are 0; a RECV's copy is lost and its header results stay. -/
def State.abortPhase (s : State) : State :=
  let t := s.modWin fun w => { w with overrun := false }
  match s.win.engine with
  | .writePhase d _ => (t.freeDesc d).endPlain .aborted
  | .readPhase _ =>
    match s.outs.p0.departing with
    | some dep => ((t.dropHostCopy dep).countLost .p0 1).endCommand .aborted s.win.results
    | none => t.endCommand .aborted s.win.results
  | .initialising | .idle | .executingSend _ | .executingClear _ => s

/-- ABORT (R128, R134, R150): in a data phase it ends the command in progress; in IDLE it ends at once with
NO_TRANSFER; elsewhere it is discarded with OVERRUN. -/
def execAbort (s : State) : Answer :=
  .next <|
    if s.win.engine.xreq && !s.win.resetApplied then s.abortPhase
    else s.commandWrite fun t => t.endPlain .noTransfer

/-- BAD_COMMAND: a COMMAND write of a code that names no command (R143). -/
def execBadCommand (s : State) : Answer := .next (s.commandWrite fun t => t.endPlain .badCommand)

end Sys2Proof.Machine
end

