-- ==== Sys2Proof/Machine/PoolCommands.lean ====
section
/-! DEFINITION. The pool, counter and record commands and CLEAR_SWITCH (sections 8.7 to 8.9). -/

namespace Sys2Proof.Machine

/-- The pool with the setting that SET_POOL's words name, or `none` when a check of R156 after the first
fails. -/
def poolSetting (q : Pool) (w : Words4) : Option Pool :=
  let v := w.w2.toNat
  match w.w0.toNat with
  | 0 => if v ≤ 256 then some { q with floor := v } else none
  | 1 =>
    match linkOfWord w.w1 with
    | some p => if 1 ≤ v ∧ v ≤ 16 then some { q with advance := q.advance.set p v } else none
    | none => none
  | 2 =>
    match portOfWord w.w1 with
    | some p =>
      if 16 ≤ v ∧ v ≤ 512 ∧ q.held.get p ≤ v then some { q with holdLimit := q.holdLimit.set p v } else none
    | none => none
  | _ => none

/-- SET_POOL once taken (R156, R20). -/
def State.runSetPool (s : State) : State :=
  if !s.allDisabled then s.endPlain .linksActive
  else match poolSetting s.pool s.win.taken with
    | none => s.endPlain .badParam
    | some q => { s with pool := q }.endCommand .ok (results s.win.taken.w2.toNat 0 0 0)

/-- SET_POOL (R156). -/
def execSetPool (s : State) : Answer := .next (s.commandWrite State.runSetPool)

/-- READ_POOL once taken (R157). -/
def State.runReadPool (s : State) : State :=
  s.endCommand .ok
    (results s.pool.freeList.length s.pool.floor s.freeDescriptors s.stamp.toNat)

/-- READ_POOL (R157). -/
def execReadPool (s : State) : Answer := .next (s.commandWrite State.runReadPool)

/-- READ_COUNTER once taken (R158): the high half first. -/
def State.runReadCounter (s : State) : State :=
  match portOfWord s.win.taken.w0, counterOfWord s.win.taken.w1 with
  | some p, some c =>
    match s.counterValue p c with
    | some v => s.endCommand .ok ⟨v.extractLsb' 16 16, v.extractLsb' 0 16, 0, 0⟩
    | none => s.endPlain .badParam
  | _, _ => s.endPlain .badParam

/-- READ_COUNTER (R158). -/
def execReadCounter (s : State) : Answer := .next (s.commandWrite State.runReadCounter)

/-- CLEAR_COUNTERS once taken (R159): all thirty-four counters. -/
def State.runClearCounters (s : State) : State :=
  { s with counters := PerPort.const PortCounters.zero, linkFaults := PerLink.const 0 }.endPlain .ok

/-- CLEAR_COUNTERS (R159). -/
def execClearCounters (s : State) : Answer := .next (s.commandWrite State.runClearCounters)

/-- TAKE_RECORD once taken (R160): the oldest record leaves the list. -/
def State.runTakeRecord (s : State) : State :=
  match s.records.list with
  | [] => s.endCommand .noRecord (results 0 0 (256 * s.records.overflow) 0)
  | r :: rest =>
    { s with records := { s.records with list := rest } }.endCommand .ok
      (recordResults r s.records.overflow)

/-- TAKE_RECORD (R160). -/
def execTakeRecord (s : State) : Answer := .next (s.commandWrite State.runTakeRecord)

/-- An output's yield run 0. -/
def Output.resetYield (o : Output) : Output := { o with yieldRun := 0 }

/-- What CLEAR_SWITCH clears in the event at which it is taken (R33, R98, R161): port 0's queues, every
descriptor, the free list, the held counts, the refill pointer, the yield runs, the rotation pointers. -/
def State.clearTraffic (s : State) : State :=
  { s with
    pool := { s.pool with
      freeList := List.finRange 1024, held := PerPort.const 0, refillPointer := .l6 }
    descs := Vector.replicate 192 none
    rotation := Vector.replicate 256 .p6
    outs := ⟨{ s.outs.p0.resetYield with express := [], standard := [] }, s.outs.p1.resetYield,
      s.outs.p2.resetYield, s.outs.p3.resetYield, s.outs.p4.resetYield, s.outs.p5.resetYield,
      s.outs.p6.resetYield⟩ }

/-- CLEAR_SWITCH once taken (R161): it stays EXECUTING for its 25 µs. -/
def State.runClearSwitch (s : State) : State :=
  if !s.allDisabled then s.endPlain .linksActive
  else s.clearTraffic.setEngine (.executingClear (192 - s.freeDescriptors))

/-- CLEAR_SWITCH (R161). -/
def execClearSwitch (s : State) : Answer := .next (s.commandWrite State.runClearSwitch)

end Sys2Proof.Machine
end

