-- ==== Sys2Proof/Machine/PortCommands.lean ====
section
/-! DEFINITION. The table, link and port commands (sections 8.5 and 8.6). -/

namespace Sys2Proof.Machine

/-- The new contents TABLE_WRITE's words give, or the code of the first test of R55 that fails. -/
def tableWriteEntry (w : Words4) : Except Code (EntryId × Entry) :=
  if h : w.w0.toNat < 256 then
    if 240 ≤ w.w0.toNat ∧ w.w0.toNat ≤ 247 then .error .anchored
    else match kindOfWord w.w1 with
      | none => .error .badParam
      | some .invalid => .ok (⟨w.w0.toNat, h⟩, Entry.invalid)
      | some kind =>
        match portsOfWord w.w2, ruleOfWord w.w3 with
        | some ports, some rule =>
          let n := (members ports).length
          if kind = .single ∧ n ≠ 1 then .error .badParam
          else if n = 0 then .error .badParam
          else .ok (⟨w.w0.toNat, h⟩, ⟨kind, ports, rule⟩)
        | _, _ => .error .badParam
  else .error .badParam

/-- TABLE_WRITE once taken (R55, R151): the entry takes its new contents and its rotation pointer becomes 6. -/
def State.runTableWrite (s : State) : State :=
  match tableWriteEntry s.win.taken with
  | .error c => s.endPlain c
  | .ok (n, e) =>
    { s with
      table := s.table.set n.val e n.isLt
      rotation := s.rotation.set n.val .p6 n.isLt }.endPlain .ok

/-- TABLE_WRITE (R55). -/
def execTableWrite (s : State) : Answer := .next (s.commandWrite State.runTableWrite)

/-- TABLE_READ once taken (R56, R151). -/
def State.runTableRead (s : State) : State :=
  if h : s.win.taken.w0.toNat < 256 then
    let e := s.table[s.win.taken.w0.toNat]'h
    s.endCommand .ok
      (results (kindValue e.kind) e.ports.toNat (ruleValue e.rule)
        (s.rotation[s.win.taken.w0.toNat]'h).num)
  else s.endPlain .badParam

/-- TABLE_READ (R56). -/
def execTableRead (s : State) : Answer := .next (s.commandWrite State.runTableRead)

/-- The end of a LINK_CONTROL: the link's state after the event, the copies released, and whether a frame in
assembly was lost (R152). -/
def State.endLinkControl (s : State) (p : LinkId) (released : Nat) (lost : Bool) : State :=
  s.endCommand .ok (results (linkStateValue (s.links.get p).state) released (yesNo lost) 0)

/-- ENABLE taken for link `p` (R117, R152). -/
def State.runEnable (s : State) (p : LinkId) : State := (s.enableLink p).endLinkControl p 0 false

/-- DISABLE taken for link `p` (R119, R93, R152). A DISABLED link has nothing to release or to lose (R102). -/
def State.runDisable (s : State) (p : LinkId) : State :=
  match (s.links.get p).state with
  | .disabled => (s.disableLink p).endLinkControl p 0 false
  | .listen | .sync | .run | .faulted =>
    (s.disableLink p).endLinkControl p (s.copiesAt p.port) (lostFrame (s.links.get p).rx).isSome

/-- RESTART taken for link `p` (R118, R152): BAD_STATE on a DISABLED link. -/
def State.runRestart (s : State) (p : LinkId) : State :=
  match (s.links.get p).state with
  | .disabled => s.endPlain .badState
  | .listen | .faulted => (s.restartLink p).endLinkControl p 0 false
  | .sync => (s.restartLink p).endLinkControl p 0 (lostFrame (s.links.get p).rx).isSome
  | .run =>
    (s.restartLink p).endLinkControl p (yesNo (s.outs.get p.port).departing.isSome)
      (lostFrame (s.links.get p).rx).isSome

/-- LINK_CONTROL once taken (R152): the link number, then the action, then the action's own check. The
action is the one PARAM1 names, whichever of the three rows the write is listed under
(notes/assumptions/7.md). -/
def State.runLinkControl (s : State) : State :=
  match linkOfWord s.win.taken.w0, actionOfWord s.win.taken.w1 with
  | none, _ => s.endPlain .badParam
  | some _, none => s.endPlain .badParam
  | some p, some .enable => s.runEnable p
  | some p, some .disable => s.runDisable p
  | some p, some .restart => s.runRestart p

/-- ENABLE: LINK_CONTROL with the action ENABLE (R117, R152). -/
def execEnable (s : State) : Answer := .next (s.commandWrite State.runLinkControl)

/-- DISABLE: LINK_CONTROL with the action DISABLE (R119, R152). -/
def execDisable (s : State) : Answer := .next (s.commandWrite State.runLinkControl)

/-- RESTART: LINK_CONTROL with the action RESTART (R118, R152). -/
def execRestart (s : State) : Answer := .next (s.commandWrite State.runLinkControl)

/-- A port's yield count set and its yield run 0 (R79). -/
def State.setYield (s : State) (p : Port) (y : Nat) : State :=
  s.setOut p { s.outs.get p with yieldCount := y, yieldRun := 0 }

/-- PORT_CONFIG once taken (R153): the checks in order, then every setting of the port in one event. Running
timers keep their durations (R79). -/
def State.runPortConfig (s : State) : State :=
  let w := s.win.taken
  match portOfWord w.w0 with
  | none => s.endPlain .badParam
  | some p =>
    if 15 < w.w1.toNat then s.endPlain .badParam
    else match p.link? with
      | none =>
        if w.w2 ≠ 0 ∨ w.w3 &&& 0x0073#16 ≠ 0 then s.endPlain .badParam
        else (s.setYield p w.w1.toNat).endPlain .ok
      | some l =>
        match speedOfWord w.w3 with
        | none => s.endPlain .badParam
        | some speed =>
          ((s.setYield p w.w1.toNat).setLinkOut l
            { s.linkOuts.get l with
              stallCode := w.w2.extractLsb' 0 8
              holdCode := w.w2.extractLsb' 8 8
              reflect := w.w3.getLsbD 0
              autoRestart := w.w3.getLsbD 1
              speed := speed }).endPlain .ok

/-- PORT_CONFIG (R153). -/
def execPortConfig (s : State) : Answer := .next (s.commandWrite State.runPortConfig)

/-- The flush of output `p` (R94): the departing copy of a link output is cut, END_CUT owed when a DATA
character of it had gone; then the queues are purged. Queue state, hold timer, yield run and settings stay. A
flush of port 0 purges its queues alone. -/
def State.flushOutput (s : State) (p : Port) : State :=
  match p.link? with
  | none => (s.purge p).countLost p (s.outs.get p).queued.length
  | some l =>
    let owed := (s.links.get l).endCutOwed || s.departureStarted l
    (((s.modLink l fun k => { k with endCutOwed := owed }).dropDeparting l).purge p).countLost p (s.copiesAt p)

/-- PORT_FLUSH once taken (R154). -/
def State.runPortFlush (s : State) : State :=
  match portOfWord s.win.taken.w0 with
  | none => s.endPlain .badParam
  | some p =>
    let n := match p.link? with
      | none => (s.outs.get p).queued.length
      | some _ => s.copiesAt p
    (s.flushOutput p).endCommand .ok (results n 0 0 0)

/-- PORT_FLUSH (R154). -/
def execPortFlush (s : State) : Answer := .next (s.commandWrite State.runPortFlush)

/-- READ_PORT once taken (R155). -/
def State.runReadPort (s : State) : State :=
  match portOfWord s.win.taken.w0 with
  | none => s.endPlain .badParam
  | some p =>
    match p.link? with
    | none => s.endCommand .ok s.hostPortResults
    | some l => s.endCommand .ok (s.linkPortResults l)

/-- READ_PORT (R155). -/
def execReadPort (s : State) : Answer := .next (s.commandWrite State.runReadPort)

end Sys2Proof.Machine
end

