-- ==== Sys2Proof/Machine/Receive.lean ====
section
/-! DEFINITION. What an arriving link character does: DATA, END_GOOD, END_CUT, CREDIT, IDLE, HELLO, and a
symbol that is a CODE_ERROR (R7 to R14, R100 to R113). -/

namespace Sys2Proof.Machine

/-- The receiver's frame state of link `p` set. -/
def State.setRx (s : State) (p : LinkId) (f : Option RxFrame) : State :=
  s.modLink p fun l => { l with rx := f }

/-- A frame from link `p` is discarded at reception: its descriptor, if it has one, goes to FREE with its
chain, DISCARDS_IN rises, and one record is made (R12 to R14, R40, R170, R175). -/
def State.discardAtReception (s : State) (p : LinkId) (f : RxFrame) (cause : Code) : State :=
  let t := match f.disposition with
    | .storing d => s.freeDesc d
    | .sinkingNoDescriptor | .sinkingSurplus => s
  (t.countDiscard p.port).record (frameRecord cause p.port none f.header)

/-- DATA at position 0 (R24 to R26, R37, R40): the group start, then the claim on a descriptor. -/
def State.startFrame (s : State) (p : LinkId) (b : Byte) : State :=
  match s.takeReserveCell p with
  | none => s.enterFaulted p .rxOverrun (some none)
  | some (c, t) =>
    let frame (disp : Disposition) : RxFrame := ⟨1, [b], none, crcByte 0xFFFF#16 b, 0, disp⟩
    match t.lowestFree with
    | some d =>
      let u := (t.allocate d p.port none [c]).setHeld p.port (t.pool.held.get p.port + 1)
      (u.writeFrameByte [c] 0 b).setRx p (some (frame (.storing d)))
    | none => (t.appendFree [c]).setRx p (some (frame .sinkingNoDescriptor))

/-- DATA at positions 1 to 3, the header still absent (R11). At position 3 the header becomes known: a LENGTH
of 1017 or more is the fault OVERSIZE, and otherwise a STORING frame's descriptor receives it. -/
def State.headerData (s : State) (p : LinkId) (f : RxFrame) (b : Byte) : State :=
  let early := f.early ++ [b]
  let stored (t : State) : State := match f.disposition with
    | .storing d => t.writeFrameByte (t.chainOf d) f.position b
    | .sinkingNoDescriptor | .sinkingSurplus => t
  if f.position < 3 then
    (stored s).setRx p (some { f with position := f.position + 1, early := early, crc := crcByte f.crc b })
  else
    let h := headerOfBytes (early.getD 0 0) (early.getD 1 0) (early.getD 2 0) (early.getD 3 0)
    if Config.maxPayload < h.length.toNat then s.enterFaulted p .oversize (some (some h))
    else
      let t := match f.disposition with
        | .storing d => match s.desc d with
          | some x => s.setDesc d (some { x with header := some h })
          | none => s
        | .sinkingNoDescriptor | .sinkingSurplus => s
      (stored t).setRx p
        (some { f with position := f.position + 1, early := [], header := some h, crc := crcByte f.crc b })

/-- DATA at a position from 4 to S-1: at a group start the pool moves a cell (R24 to R26); a STORING frame's
byte is written into its cell (R3). -/
def State.bodyData (s : State) (p : LinkId) (f : RxFrame) (h : Header) (b : Byte) : State :=
  let next : RxFrame := { f with position := f.position + 1, crc := crcByte f.crc b }
  let stored (t : State) : State := match f.disposition with
    | .storing d => t.writeFrameByte (t.chainOf d) f.position b
    | .sinkingNoDescriptor | .sinkingSurplus => t
  if isGroupStart f.position h.size then
    match s.takeReserveCell p with
    | none => s.fault p .rxOverrun
    | some (c, t) =>
      match f.disposition with
      | .storing d =>
        let u := match t.desc d with
          | some x => (t.setDesc d (some { x with chain := x.chain ++ [c] })).setHeld p.port
              (t.pool.held.get p.port + 1)
          | none => t.appendFree [c]
        (stored u).setRx p (some next)
      | .sinkingNoDescriptor | .sinkingSurplus => (t.appendFree [c]).setRx p (some next)
  else (stored s).setRx p (some next)

/-- DATA in a frame whose header is known: stored bytes below S, the two check bytes, and surplus from S+2 on
(R10, R12, R13). -/
def State.knownData (s : State) (p : LinkId) (f : RxFrame) (h : Header) (b : Byte) : State :=
  if f.position < h.size then s.bodyData p f h b
  else if f.position = h.size then
    s.setRx p (some { f with position := f.position + 1, received := b ++ (0 : Byte) })
  else if f.position = h.size + 1 then
    s.setRx p (some { f with position := f.position + 1, received := f.received.extractLsb' 8 8 ++ b })
  else
    (s.discardAtReception p f .lengthMismatch).setRx p (some { f with disposition := .sinkingSurplus })

/-- DATA received in RUN (R109). -/
def State.dataInRun (s : State) (p : LinkId) (b : Byte) : State :=
  match (s.links.get p).rx with
  | none => s.startFrame p b
  | some f =>
    match f.disposition, f.header with
    | .sinkingSurplus, _ => s
    | _, none => s.headerData p f b
    | _, some h => s.knownData p f h b

/-- DATA_RECEIVED (R109, R100). -/
def execDataReceived (p : LinkId) (b : Byte) (s : State) : Answer :=
  .next <| match (s.links.get p).state with
    | .disabled | .listen | .faulted => s
    | .sync => s.fault p .protocol
    | .run => (s.restartSilence p).dataInRun p b

/-- END_GOOD with a frame in progress: its outcome by its position and check (R13). A complete frame goes at
once to route resolution (R58). -/
def State.endGoodInFrame (s : State) (p : LinkId) (f : RxFrame) : State :=
  let t := s.setRx p none
  match f.disposition with
  | .sinkingSurplus => t
  | .sinkingNoDescriptor => t.discardAtReception p f .noDescriptor
  | .storing d =>
    match f.header with
    | none => t.discardAtReception p f .lengthMismatch
    | some h =>
      if f.position < h.size + 2 then t.discardAtReception p f .lengthMismatch
      else if f.crc ≠ f.received then t.discardAtReception p f .checkFail
      else (t.resolve d p.port h).2

/-- END_GOOD_RECEIVED (R13, R100, R109). -/
def execEndGoodReceived (p : LinkId) (s : State) : Answer :=
  .next <| match (s.links.get p).state with
    | .disabled | .listen | .faulted => s
    | .sync => s.fault p .protocol
    | .run =>
      match (s.links.get p).rx with
      | none => s.fault p .protocol
      | some f => (s.restartSilence p).endGoodInFrame p f

/-- END_CUT with a frame in progress (R14). -/
def State.endCutInFrame (s : State) (p : LinkId) (f : RxFrame) : State :=
  let t := s.setRx p none
  match f.disposition with
  | .sinkingSurplus => t
  | .sinkingNoDescriptor => t.discardAtReception p f .noDescriptor
  | .storing _ => t.discardAtReception p f .cutIn

/-- END_CUT_RECEIVED (R14, R100, R109). -/
def execEndCutReceived (p : LinkId) (s : State) : Answer :=
  .next <| match (s.links.get p).state with
    | .disabled | .listen | .faulted => s
    | .sync => s.fault p .protocol
    | .run =>
      match (s.links.get p).rx with
      | none => s.fault p .protocol
      | some f => (s.restartSilence p).endCutInFrame p f

/-- A symbol that is a CODE_ERROR arrives (R113). -/
def State.codeError (s : State) (p : LinkId) : State :=
  match (s.links.get p).state with
  | .disabled | .listen | .faulted => s
  | .sync | .run => s.fault p .codeError

/-- Credit arrives for a departure that waits at a group start: the wait ends and the stall timer stops; the
next symbol time spends the credit (R86, R110, R111). -/
def State.endWait (s : State) (p : LinkId) : State :=
  match (s.outs.get p.port).departing with
  | none => s
  | some dep =>
    if dep.waiting then
      (s.setOut p.port { s.outs.get p.port with departing := some { dep with waiting := false } }).stopStall p
    else s

/-- CREDIT(n) received in RUN (R110). -/
def State.creditInRun (s : State) (p : LinkId) (n : Nat) : State :=
  if (s.links.get p).txCredit + n ≤ Config.creditMax then
    (s.modLink p fun l => { l with txCredit := l.txCredit + n }).endWait p
  else s.fault p .creditOverrun

/-- CREDIT_RECEIVED (R110, R104, R100). A count outside 1 to 16 has no control code, so the symbol is a
CODE_ERROR (R7, R178; notes/assumptions/8.md). -/
def execCreditReceived (p : LinkId) (n : Nat) (s : State) : Answer :=
  .next <|
    if 1 ≤ n ∧ n ≤ 16 then
      match (s.links.get p).state with
      | .disabled | .listen | .faulted => s
      | .sync => s.enterRun p n
      | .run => (s.restartSilence p).creditInRun p n
    else s.codeError p

/-- IDLE_RECEIVED (R106, R100). The transmit credit of a link in SYNC is 0 (R103) and stays as it is. -/
def execIdleReceived (p : LinkId) (s : State) : Answer :=
  .next <| match (s.links.get p).state with
    | .disabled | .listen | .faulted => s
    | .sync => s.enterRun p (s.links.get p).txCredit
    | .run => s.restartSilence p

/-- HELLO_RECEIVED (R103, R100, R109). -/
def execHelloReceived (p : LinkId) (s : State) : Answer :=
  .next <| match (s.links.get p).state with
    | .disabled | .faulted => s
    | .listen => s.enterSync p
    | .sync => s.restartSilence p
    | .run => s.fault p .restartSeen

/-- CODE_ERROR_RECEIVED (R113, R100). -/
def execCodeErrorReceived (p : LinkId) (s : State) : Answer := .next (s.codeError p)

end Sys2Proof.Machine
end

