-- ==== Sys2Proof/Machine/Timers.lean ====
section
/-! DEFINITION. The expiries of a link's timers. An expiry of a timer that is not running does not occur: the
command then leaves the state as it is (notes/assumptions/5.md). -/

namespace Sys2Proof.Machine

/-- SILENCE_TIMER_EXPIRY, in SYNC or RUN (R107, R113). -/
def execSilenceTimerExpiry (p : LinkId) (s : State) : Answer :=
  .next <|
    if (s.links.get p).silenceTimer.isRunning then
      match (s.links.get p).state with
      | .sync | .run => s.fault p .silence
      | .disabled | .listen | .faulted => s
    else s

/-- SYNC_TIMER_EXPIRY, in SYNC (R105, R113). -/
def execSyncTimerExpiry (p : LinkId) (s : State) : Answer :=
  .next <|
    if (s.links.get p).syncTimer.isRunning then
      match (s.links.get p).state with
      | .sync => s.fault p .syncTimeout
      | .disabled | .listen | .run | .faulted => s
    else s

/-- RECOVERY_TIMER_EXPIRY, in FAULTED (R116): LISTEN when a restart request is pending or auto-restart is on;
otherwise FAULTED with recovery over. -/
def execRecoveryTimerExpiry (p : LinkId) (s : State) : Answer :=
  .next <|
    if (s.links.get p).recoveryTimer.isRunning then
      match (s.links.get p).state with
      | .faulted =>
        if (s.links.get p).restartRequest || (s.linkOuts.get p).autoRestart then s.enterListen p
        else s.modLink p fun l => { l with recoveryTimer := .stopped }
      | .disabled | .listen | .sync | .run => s
    else s

/-- STALL_TIMER_EXPIRY (R87): the departing copy is cut and released as lost, one STALLED record is made, and
END_CUT is owed when a DATA character of the frame had gone (R111). -/
def execStallTimerExpiry (p : LinkId) (s : State) : Answer :=
  .next <|
    if (s.linkOuts.get p).stallTimer.isRunning then
      match (s.outs.get p.port).departing with
      | none => s
      | some dep =>
        let source := match s.desc dep.desc with
          | some x => x.source
          | none => p.port
        let owed := (s.links.get p).endCutOwed || s.departureStarted p
        let t := (s.modLink p fun l => { l with endCutOwed := owed }).dropDeparting p
        (t.countLost p.port 1).record
          (frameRecord .stalled source (some p.port) (some (s.headerOf dep.desc)))
    else s

/-- HOLD_TIMER_EXPIRY (R91): the queued copies are purged with one LINK_LOST record when any is released, and
the output becomes CLOSED. -/
def execHoldTimerExpiry (p : LinkId) (s : State) : Answer :=
  .next <|
    if (s.linkOuts.get p).holdTimer.isRunning then
      (s.purgeLost p).setQueueState p .closed .stopped
    else s

end Sys2Proof.Machine
end

