-- ==== Sys2Proof/Machine/Transmit.lean ====
section
/-! DEFINITION. Events of the pool, the outputs and the transmitters that are taken of their own accord:
REFILL, SELECTION and TRANSMIT_CHARACTER (R21, R22, R81, R85, R103, R108, R111). -/

namespace Sys2Proof.Machine

/-- REFILL (R21, R22): the first link that meets the four conditions, searching upward from the pointer + 1,
is given one cell. When no link meets them no refill takes place. -/
def execRefill (s : State) : Answer :=
  .next <| match (refillOrder s.pool.refillPointer).find? fun p => s.refillable p with
    | some p => s.refillLink p
    | none => s

/-- The departure of link `p` has come to a position: at a group start with transmit credit 0 it waits, and the
stall timer starts from zero with the code current at that moment; anywhere else it does not wait and the stall
timer is stopped (R85, R86). -/
def State.arrive (s : State) (p : LinkId) (dep : Departure) (size : Nat) : State :=
  let wait := isGroupStart dep.position size && decide ((s.links.get p).txCredit = 0)
  let t := s.setOut p.port { s.outs.get p.port with departing := some { dep with waiting := wait } }
  let o := s.linkOuts.get p
  t.setLinkOut p { o with stallTimer := if wait then timerOfCode o.stallCode else .stopped }

/-- The copy that `takeNext` gave goes to the departing slot of link `p` as a DEPARTING copy at position 0
(R45, R81, R85). -/
def State.beginDeparture (s : State) (p : LinkId) (d : DescId) (cls : Class) (o : Output) : State :=
  ((s.setOut p.port o).markDeparting p.port d).arrive p ⟨d, cls, 0, false⟩ (s.headerOf d).size

/-- SELECTION at a link output (R81): its queue is OPEN, its departing slot empty, and a copy is queued. -/
def execSelection (p : LinkId) (s : State) : Answer :=
  .next <|
    if (s.linkOuts.get p).queueState = .opened ∧ (s.outs.get p.port).departing = none then
      match (s.outs.get p.port).takeNext with
      | some (d, cls, o) => s.beginDeparture p d cls o
      | none => s
    else s

/-- Stored byte k of frame `d` as a link departure sends it: position 1 carries HOPS one less (R6, R179). -/
def State.sentByte (s : State) (d : DescId) (k : Nat) : Byte :=
  let b := s.frameByte (s.chainOf d) k
  if k = 1 then
    (b &&& 0x87#8) ||| ((0#1 ++ ((s.headerOf d).hops - 1) ++ 0#3 : BitVec 8))
  else b

/-- The check a departure sends, computed over the bytes it sends (R5, R6). -/
def State.sentCheck (s : State) (d : DescId) : Word :=
  checkOf ((List.range (s.headerOf d).size).map (s.sentByte d))

/-- The character a departure sends at a position: a stored byte, a check byte, or END_GOOD (R85). -/
def State.departureChar (s : State) (d : DescId) (position : Nat) : LinkChar :=
  let size := (s.headerOf d).size
  if position < size then .data (s.sentByte d position)
  else if position = size then .data ((s.sentCheck d).extractLsb' 8 8)
  else if position = size + 1 then .data ((s.sentCheck d).extractLsb' 0 8)
  else .endGood

/-- The transmit pair of link `p` carries a character, or is silent. -/
def State.putLine (s : State) (p : LinkId) (c : Option LinkChar) : State :=
  s.modLink p fun l => { l with line := c }

/-- CREDIT(n) is sent with n the whole pending credit, which becomes outstanding (R18). -/
def State.sendCredit (s : State) (p : LinkId) : State :=
  let q := s.pool.links.get p
  (s.setLinkPool p
    { q with outstanding := q.outstanding + q.pendingCredit, pendingCredit := 0 }).putLine p
      (some (.credit q.pendingCredit))

/-- CREDIT when credit is pending, IDLE otherwise. -/
def State.sendCreditOrIdle (s : State) (p : LinkId) : State :=
  if (s.pool.links.get p).pendingCredit = 0 then s.putLine p (some .idle) else s.sendCredit p

/-- The next character of a departure is sent. END_GOOD releases the copy as delivered (R85); a DATA
character brings the departure to its next position. -/
def State.sendDeparture (s : State) (p : LinkId) (dep : Departure) : State :=
  let c := s.departureChar dep.desc dep.position
  let t := s.putLine p (some c)
  if (s.headerOf dep.desc).size + 2 ≤ dep.position then
    (t.dropDeparting p).countDelivered p.port
  else t.arrive p { dep with position := dep.position + 1 } (s.headerOf dep.desc).size

/-- The transmitter of a link in RUN: the first of the five choices of R111 that applies. -/
def State.transmitInRun (s : State) (p : LinkId) : State :=
  if (s.links.get p).endCutOwed then
    (s.modLink p fun l => { l with endCutOwed := false }).putLine p (some .endCut)
  else match (s.outs.get p.port).departing with
    | none => s.sendCreditOrIdle p
    | some dep =>
      if isGroupStart dep.position (s.headerOf dep.desc).size then
        if (s.pool.links.get p).pendingCredit ≠ 0 then s.sendCredit p
        else if (s.links.get p).txCredit ≠ 0 then
          (s.modLink p fun l => { l with txCredit := l.txCredit - 1 }).sendDeparture p dep
        else s.putLine p (some .idle)
      else s.sendDeparture p dep

/-- The transmitter of a link in SYNC: one HELLO, one IDLE, then CREDIT or IDLE (R103). -/
def State.transmitInSync (s : State) (p : LinkId) : State :=
  match (s.links.get p).syncStep with
  | .hello => (s.modLink p fun l => { l with syncStep := .idle }).putLine p (some .hello)
  | .idle => (s.modLink p fun l => { l with syncStep := .stream }).putLine p (some .idle)
  | .stream => s.sendCreditOrIdle p

/-- TRANSMIT_CHARACTER: one symbol time of link `p` (R108). In DISABLED and FAULTED nothing is sent. -/
def execTransmitCharacter (p : LinkId) (s : State) : Answer :=
  .next <| match (s.links.get p).state with
    | .disabled | .faulted => s.putLine p none
    | .listen => s.putLine p (some .hello)
    | .sync => s.transmitInSync p
    | .run => s.transmitInRun p

end Sys2Proof.Machine
end

