-- ==== Sys2Proof/Machine/Dispatch.lean ====
section
/-! DEFINITION. One arm for each command. -/

namespace Sys2Proof.Machine

def exec (i : Instr) (s : State) : Host.Outcome State Fault Refusal :=
  match i with
  | .dataReceived link byte => Sys2Proof.Machine.execDataReceived link byte s
  | .endGoodReceived link => Sys2Proof.Machine.execEndGoodReceived link s
  | .endCutReceived link => Sys2Proof.Machine.execEndCutReceived link s
  | .creditReceived link count => Sys2Proof.Machine.execCreditReceived link count s
  | .idleReceived link => Sys2Proof.Machine.execIdleReceived link s
  | .helloReceived link => Sys2Proof.Machine.execHelloReceived link s
  | .codeErrorReceived link => Sys2Proof.Machine.execCodeErrorReceived link s
  | .silenceTimerExpiry link => Sys2Proof.Machine.execSilenceTimerExpiry link s
  | .syncTimerExpiry link => Sys2Proof.Machine.execSyncTimerExpiry link s
  | .recoveryTimerExpiry link => Sys2Proof.Machine.execRecoveryTimerExpiry link s
  | .stallTimerExpiry link => Sys2Proof.Machine.execStallTimerExpiry link s
  | .holdTimerExpiry link => Sys2Proof.Machine.execHoldTimerExpiry link s
  | .refill => Sys2Proof.Machine.execRefill s
  | .selection link => Sys2Proof.Machine.execSelection link s
  | .transmitCharacter link => Sys2Proof.Machine.execTransmitCharacter link s
  | .resolution => Sys2Proof.Machine.execResolution s
  | .initialisationEnd => Sys2Proof.Machine.execInitialisationEnd s
  | .clearSwitchEnd => Sys2Proof.Machine.execClearSwitchEnd s
  | .hardReset => Sys2Proof.Machine.execHardReset s
  | .softReset word => Sys2Proof.Machine.execSoftReset word s
  | .masterEnableWrite word => Sys2Proof.Machine.execMasterEnableWrite word s
  | .irqCauseWrite word => Sys2Proof.Machine.execIrqCauseWrite word s
  | .dataWrite word => Sys2Proof.Machine.execDataWrite word s
  | .dataRead => Sys2Proof.Machine.execDataRead s
  | .registerWrite reg word => Sys2Proof.Machine.execRegisterWrite reg word s
  | .send => Sys2Proof.Machine.execSend s
  | .recv => Sys2Proof.Machine.execRecv s
  | .skip => Sys2Proof.Machine.execSkip s
  | .abort => Sys2Proof.Machine.execAbort s
  | .tableWrite => Sys2Proof.Machine.execTableWrite s
  | .tableRead => Sys2Proof.Machine.execTableRead s
  | .enable => Sys2Proof.Machine.execEnable s
  | .disable => Sys2Proof.Machine.execDisable s
  | .restart => Sys2Proof.Machine.execRestart s
  | .portConfig => Sys2Proof.Machine.execPortConfig s
  | .portFlush => Sys2Proof.Machine.execPortFlush s
  | .readPort => Sys2Proof.Machine.execReadPort s
  | .setPool => Sys2Proof.Machine.execSetPool s
  | .readPool => Sys2Proof.Machine.execReadPool s
  | .readCounter => Sys2Proof.Machine.execReadCounter s
  | .clearCounters => Sys2Proof.Machine.execClearCounters s
  | .takeRecord => Sys2Proof.Machine.execTakeRecord s
  | .clearSwitch => Sys2Proof.Machine.execClearSwitch s
  | .badCommand => Sys2Proof.Machine.execBadCommand s
  | .resetRelease => Sys2Proof.Machine.execResetRelease s

end Sys2Proof.Machine
end

