-- ==== Sys2Proof/Safety.lean ====
section
/-! DEFINITION. What a safe state of the part is: the laws of the device that the manual states, each as a
property of a state, and the facts about owners that make them hold at every step. -/

namespace Sys2Proof.Machine

/-! ## Cells and descriptors -/

/-- Every cell number in its place: the free list, the six reserves, the chains of the descriptors in use
(section 2.1). -/
def State.cellPlaces (s : State) : List CellId :=
  s.pool.freeList ++ s.pool.links.toList.flatMap (fun q => q.reserve)
    ++ (List.finRange 192).flatMap s.chainOf

/-- The number of cells in the chains of the frames from source `p` (R19). -/
def State.chainCells (s : State) (p : Port) : Nat :=
  ((List.finRange 192).map fun d =>
    match s.desc d with
    | some x => if x.source = p then x.chain.length else 0
    | none => 0).sum

/-- The descriptor of the SEND in progress, if one is (R35, R127). -/
def Engine.sendDesc : Engine → Option DescId
  | .writePhase d _ | .executingSend d => some d
  | .initialising | .idle | .executingClear _ | .readPhase _ => none

/-- Each cell is in exactly one place (R15, Laws 1 and 2), together with what makes it so: a STORING frame and
a SEND in progress own an ASSEMBLING descriptor of their source (R35), an ASSEMBLING descriptor has no copies
(R34), a frame is in progress only in RUN, a reserve is empty outside SYNC and RUN (R17), and every held count
counts the cells of its source's chains (R19). -/
structure CellsInPlace (s : State) : Prop where
  places : List.Perm s.cellPlaces (List.finRange 1024)
  storing : ∀ p f d, (s.links.get p).rx = some f → f.disposition = .storing d →
    ∃ x, s.desc d = some x ∧ x.state = .assembling ∧ x.source = p.port
  sending : ∀ d, s.win.engine.sendDesc = some d →
    ∃ x, s.desc d = some x ∧ x.state = .assembling ∧ x.source = .p0
  noCopies : ∀ d x, s.desc d = some x → x.state = .assembling → x.copies = PerPort.const none
  inFrame : ∀ p, (s.links.get p).rx ≠ none → (s.links.get p).state = .run
  reserves : ∀ p, (s.pool.links.get p).reserve ≠ [] →
    (s.links.get p).state = .sync ∨ (s.links.get p).state = .run
  heldCounts : ∀ p, s.pool.held.get p = s.chainCells p

/-! ## Credit -/

/-- Law 3, Law 4 and R17 at every link, every reserve in ascending cell number, the pool settings in their
ranges (section 2.5), and an empty reserve outside SYNC and RUN. -/
structure CreditLaws (s : State) : Prop where
  reserveSplit : ∀ p, (s.pool.links.get p).reserve.length =
    (s.pool.links.get p).outstanding + (s.pool.links.get p).pendingCredit
  reserveBound : ∀ p, (s.pool.links.get p).reserve.length ≤ s.pool.advance.get p
  reserveAscending : ∀ p, (s.pool.links.get p).reserve.Pairwise (· ≤ ·)
  advanceRange : ∀ p, 1 ≤ s.pool.advance.get p ∧ s.pool.advance.get p ≤ 16
  holdRange : ∀ p, 16 ≤ s.pool.holdLimit.get p ∧ s.pool.holdLimit.get p ≤ 512
  floorRange : s.pool.floor ≤ 256
  linkHold : ∀ p : LinkId,
    (s.pool.links.get p).reserve.length + s.pool.held.get p.port ≤ s.pool.holdLimit.get p.port
  hostHold : s.pool.held.p0 ≤ s.pool.holdLimit.p0
  reserves : ∀ p, (s.pool.links.get p).reserve ≠ [] →
    (s.links.get p).state = .sync ∨ (s.links.get p).state = .run
  txCredit : ∀ p, (s.links.get p).txCredit ≤ 64

/-! ## Outputs -/

/-- Law 5 and Law 7, the yield run within 0 to Y (R83), and the queue state that belongs to each link state
(R77): OPEN exactly in RUN, CLOSED in DISABLED, a CLOSED queue empty, and the timers of an output running only where their rules
run them (R75, R86, R90). -/
structure OutputLaws (s : State) : Prop where
  queueCap : ∀ p, (s.outs.get p).express.length ≤ 32 ∧ (s.outs.get p).standard.length ≤ 32
  yieldRun : ∀ p, (s.outs.get p).yieldRun ≤ (s.outs.get p).yieldCount ∧ (s.outs.get p).yieldCount ≤ 15
  departingInRun : ∀ p : LinkId, (s.outs.get p.port).departing ≠ none → (s.links.get p).state = .run
  openInRun : ∀ p, (s.linkOuts.get p).queueState = .opened ↔ (s.links.get p).state = .run
  closedWhenDisabled : ∀ p, (s.links.get p).state = .disabled → (s.linkOuts.get p).queueState = .closed
  closedEmpty : ∀ p : LinkId, (s.linkOuts.get p).queueState = .closed →
    (s.outs.get p.port).express = [] ∧ (s.outs.get p.port).standard = []
  holdTimer : ∀ p, (s.linkOuts.get p).holdTimer ≠ .stopped ↔ (s.linkOuts.get p).queueState = .held
  stallTimer : ∀ p : LinkId, (s.linkOuts.get p).stallTimer ≠ .stopped →
    ∃ dep, (s.outs.get p.port).departing = some dep ∧ dep.waiting = true
  applied : s.win.resetApplied = true → s.win.engine = .initialising
  hostSlot : s.outs.p0.departing ≠ none ↔ ∃ cursor, s.win.engine = .readPhase cursor

/-- The timers of each link port run only in their states: silence in SYNC and RUN, sync in SYNC, recovery in
FAULTED (R99), and a restart request is pending only in FAULTED (R116). -/
structure TimerLaws (s : State) : Prop where
  silence : ∀ p, (s.links.get p).silenceTimer ≠ .stopped ↔
    (s.links.get p).state = .sync ∨ (s.links.get p).state = .run
  sync : ∀ p, (s.links.get p).syncTimer ≠ .stopped ↔ (s.links.get p).state = .sync
  recovery : ∀ p, (s.links.get p).recoveryTimer ≠ .stopped → (s.links.get p).state = .faulted
  restart : ∀ p, (s.links.get p).restartRequest = true → (s.links.get p).state = .faulted

/-! ## Copies -/

/-- The copies an output still owes: those queued and the one departing (R75). -/
def State.owedAt (s : State) (p : Port) : List DescId :=
  (s.outs.get p).queued ++
    match (s.outs.get p).departing with
    | some dep => [dep.desc]
    | none => []

/-- Law 6 with what the copy set and the queues hold together (R44): a QUEUED copy stands in the class queue of
its class, a DEPARTING copy in the slot, each frame at most once at one output, and the copy set names no other
output; a STORED descriptor always owes a copy. A frame in assembly is the one of its source (Law 8, R35), with
the header its receiver holds. No frame with stored HOPS 0 has a copy at a link (Law 11). -/
structure CopyLaws (s : State) : Prop where
  once : ∀ p, (s.owedAt p).Nodup
  queued : ∀ p cls d, d ∈ (s.outs.get p).queue cls →
    ∃ x, s.desc d = some x ∧ x.copies.get p = some ⟨cls, .queued⟩
  departing : ∀ p dep, (s.outs.get p).departing = some dep →
    ∃ x, s.desc dep.desc = some x ∧ x.copies.get p = some ⟨dep.cls, .departing⟩
  owed : ∀ p d x c, s.desc d = some x → x.copies.get p = some c → d ∈ s.owedAt p
  storedOwes : ∀ d x, s.desc d = some x → x.state = .stored → 1 ≤ x.copyCount ∧ x.header ≠ none
  assembling : ∀ d x, s.desc d = some x → x.state = .assembling →
    (x.source = .p0 ∧ s.win.engine.sendDesc = some d ∧ x.header ≠ none) ∨
      ∃ p f, x.source = LinkId.port p ∧ (s.links.get p).rx = some f ∧ f.disposition = .storing d ∧
        x.header = f.header
  hopZero : ∀ d x h (p : LinkId), s.desc d = some x → x.header = some h → h.hops = 0 →
    x.copies.get p.port = none

/-! ## Records, table -/

/-- The bounds of Law 10 and R168: at most 16 records, and an overflow count of at most 255. -/
structure RecordLaws (s : State) : Prop where
  cap : s.records.list.length ≤ 16
  overflow : s.records.overflow ≤ 255

/-- Law 12: the anchored entries hold their contents, and the rotation pointer of every entry that is not
SPREAD is 6 (R53, R54). -/
structure TableLaws (s : State) : Prop where
  anchored : ∀ n : Fin 8, s.table[240 + n.val]'(by omega) =
    (anchoredEntries[n.val]'(by simp [anchoredEntries]))
  pointers : ∀ n : EntryId, s.table[n].kind ≠ .spread → s.rotation[n] = .p6
  members : ∀ n : EntryId,
    match s.table[n].kind with
    | .invalid => s.table[n] = Entry.invalid
    | .single => (members s.table[n].ports).length = 1
    | .spread | .fanout => 1 ≤ (members s.table[n].ports).length

/-! ## Terms of the statements -/

/-- A command written now is taken: no hard reset is applied and the engine is IDLE (R128, R140). -/
abbrev HostReady (s : State) : Prop := s.win.resetApplied = false ∧ s.win.engine = .idle

/-- The window after a command that is taken in IDLE and ends in the same event with a code and results: the
engine is IDLE again, ERROR holds the code, OVERRUN is cleared, PARAM0 to PARAM3 were copied, the RESULT registers
hold the results, and CMD_DONE is latched (R128, R129). Every other item is as in `s`. -/
def State.afterCommand (s : State) (code : Code) (r : Words4) : State :=
  { s with win := { s.win with
      engine := .idle, error := code, overrun := false, taken := s.win.params, results := r, cmdDone := true } }

/-- The rows that are a COMMAND write (R128). -/
def isCommandWrite : Instr → Bool
  | .send | .recv | .skip | .abort | .tableWrite | .tableRead | .enable | .disable | .restart | .portConfig
  | .portFlush | .readPort | .setPool | .readPool | .readCounter | .clearCounters | .takeRecord | .clearSwitch
  | .badCommand => true
  | .dataReceived _ _ | .endGoodReceived _ | .endCutReceived _ | .creditReceived _ _ | .idleReceived _
  | .helloReceived _ | .codeErrorReceived _ | .silenceTimerExpiry _ | .syncTimerExpiry _
  | .recoveryTimerExpiry _ | .stallTimerExpiry _ | .holdTimerExpiry _ | .refill | .selection _
  | .transmitCharacter _ | .resolution | .initialisationEnd | .clearSwitchEnd | .hardReset | .softReset _
  | .masterEnableWrite _ | .irqCauseWrite _ | .dataWrite _ | .dataRead | .registerWrite _ _
  | .resetRelease => false

/-- The frame memory of `t` is that of `s` with one byte stored at an address, or no byte at all when there is no
address. -/
def StoresOnly (s t : State) (address : Option Nat) (b : Byte) : Prop :=
  ∀ a, Memory.read t.cells a = if address = some a then b else Memory.read s.cells a

/-- Where the next byte of a frame in progress is stored: in the chain of a STORING frame, nowhere for a sunk
one (R3, R24, R26). -/
def State.storedAt (s : State) (f : RxFrame) : Option Nat :=
  match f.disposition with
  | .storing d => chainAddr? (s.chainOf d) f.position
  | .sinkingNoDescriptor | .sinkingSurplus => none

/-- Descriptor `d` is the lowest-numbered FREE one (R37, R38). -/
def LowestFree (s : State) (d : DescId) : Prop := s.desc d = none ∧ ∀ e, e < d → s.desc e ≠ none

/-- The link port with the silence timer started from zero, as every character received in SYNC or RUN leaves it
(R107), and with a receiver frame state. -/
def LinkPort.heard (l : LinkPort) (rx : Option RxFrame) : LinkPort :=
  { l with silenceTimer := .running 64, rx := rx }

end Sys2Proof.Machine
end

