-- ==== Sys2Proof/WellFormed.lean ====
section
/-! DEFINITION. The commands that can occur: those whose operand is one their row admits. -/

namespace Sys2Proof

/-- CREDIT has a control code for each n from 1 to 16 and for no other (R7); a CONTROL write is the row
SOFT_RESET when its soft reset request, bit 15, is 1, and the row MASTER_ENABLE_WRITE when it is 0 (R138,
R180). Every other operand is admitted. -/
def Instr.wellFormed : Instr → Bool
  | .creditReceived _ n => decide (1 ≤ n) && decide (n ≤ 16)
  | .softReset w => w.getLsbD 15
  | .masterEnableWrite w => !w.getLsbD 15
  | .dataReceived _ _ | .endGoodReceived _ | .endCutReceived _ | .idleReceived _ | .helloReceived _
  | .codeErrorReceived _ | .silenceTimerExpiry _ | .syncTimerExpiry _ | .recoveryTimerExpiry _
  | .stallTimerExpiry _ | .holdTimerExpiry _ | .refill | .selection _ | .transmitCharacter _ | .resolution
  | .initialisationEnd | .clearSwitchEnd | .hardReset | .irqCauseWrite _ | .dataWrite _ | .dataRead
  | .registerWrite _ _ | .send | .recv | .skip | .abort | .tableWrite | .tableRead | .enable | .disable
  | .restart | .portConfig | .portFlush | .readPort | .setPool | .readPool | .readCounter | .clearCounters
  | .takeRecord | .clearSwitch | .badCommand | .resetRelease => true

end Sys2Proof
end

