-- ==== Sys2Proof/Certificates/Slice0/Obligations.lean ====
section
/-! DEFINITION. The statements for the provers, one `def Obligations.<Name> : Prop` each. OBLIGATIONS.json lists
them with what they cite. -/

section Statements

open Sys2Proof Sys2Proof.Machine

/-! ## The machine as a whole -/

/-- Step runs the command at the front of the queue on the state with the queue's rest. With no command
waiting the part idles, which is the model's choice (notes/assumptions/4.md). -/
def Obligations.StepTakesTheFrontCommand : Prop :=
  (∀ (s : State) (c : Instr) (rest : List Instr), s.pending = c :: rest →
    step s = exec c { s with pending := rest }) ∧
  ∀ s : State, s.pending = [] → step s = .next s

/-- No command ends in a fault or a refusal in any state, and none touches the queue of waiting commands. Both are the
model's choice: every operation is total, also in states that no run reaches (notes/assumptions/16.md), a command whose
event cannot occur changes nothing (notes/assumptions/5.md), and the queue is the model's own, which also a reset keeps
(notes/assumptions/3.md and 20.md). -/
def Obligations.EveryCommandCompletesAndKeepsTheQueue : Prop :=
  ∀ (c : Instr) (s : State), ∃ t, exec c s = .next t ∧ t.pending = s.pending

/-- The values a hard reset gives (R32, R50, R74, R54, R98 with R79, R124, R140, R173, R174), as State.reset
holds them: initialisation has begun. -/
def Obligations.StateAfterHardReset : Prop :=
  let s := State.reset
  (s.pool.freeList = List.finRange 1024 ∧ s.pool.refillPointer = .l6 ∧ s.pool.floor = 64) ∧
  (∀ p, s.pool.links.get p = ⟨[], 0, 0⟩ ∧ s.pool.advance.get p = 4) ∧
  (∀ p, s.pool.held.get p = 0 ∧ s.pool.holdLimit.get p = 128) ∧
  ((∀ d, s.desc d = none) ∧ s.stamp = 0) ∧
  (∀ n : EntryId, s.rotation[n] = .p6 ∧
    if 240 ≤ n.val ∧ n.val ≤ 246 then
      s.table[n].kind = .single ∧ s.table[n].rule = .keep ∧
        ∀ p : Port, s.table[n].ports.getLsbD p.num = decide (p.num = n.val - 240)
    else if n.val = 247 then
      s.table[n].kind = .fanout ∧ s.table[n].rule = .keep ∧
        ∀ p : Port, s.table[n].ports.getLsbD p.num = p.link?.isSome
    else s.table[n] = ⟨.invalid, 0, .keep⟩) ∧
  (∀ p, (s.outs.get p).express = [] ∧ (s.outs.get p).standard = [] ∧ (s.outs.get p).departing = none ∧
    (s.outs.get p).yieldRun = 0 ∧ (s.outs.get p).yieldCount = 4) ∧
  (s.queueState .p0 = .opened ∧ s.reflect .p0 = true) ∧
  (∀ p, s.linkOuts.get p = ⟨.closed, .stopped, .stopped, 10, 100, false, false, .mbit100⟩) ∧
  (∀ p, (s.links.get p).state = .disabled ∧ (s.links.get p).restartRequest = false ∧
    (s.links.get p).txCredit = 0 ∧ (s.links.get p).rx = none ∧ (s.links.get p).silenceTimer = .stopped ∧
    (s.links.get p).syncTimer = .stopped ∧ (s.links.get p).recoveryTimer = .stopped ∧
    (s.links.get p).rate = .mbit100 ∧ (s.links.get p).line = none) ∧
  (s.records = ⟨[], 0, 0⟩ ∧ (∀ p, s.counters.get p = ⟨0, 0, 0, 0⟩) ∧ ∀ p, s.linkFaults.get p = 0) ∧
  (s.win.engine = .initialising ∧ s.win.resetApplied = false ∧ s.win.error = .ok ∧ s.win.overrun = false) ∧
  (s.win.cmdDone = false ∧ s.win.dataReq = false ∧ s.win.linkChange = false) ∧
  (s.win.irqEnable = 0 ∧ s.win.masterEnable = false ∧ s.win.params = ⟨0, 0, 0, 0⟩ ∧
    s.win.results = ⟨0, 0, 0, 0⟩)

/-! ## Resets and register accesses -/

/-- HARD_RESET puts every part of the device at its hard-reset value and stays applied; RESET_RELEASE begins
initialisation with the values of R140; INITIALISATION_END brings the engine to IDLE and changes nothing else. By the
model's choice the bytes of the cells and the waiting commands are kept (notes/assumptions/2.md and 3.md), the data bus
and the copy of the parameters are zero (notes/assumptions/9.md and 13.md), the engine is INITIALISING while the reset
is applied (notes/assumptions/17.md), and RESET_RELEASE with no reset applied and INITIALISATION_END outside INITIALISING
change nothing (notes/assumptions/5.md). -/
def Obligations.HardResetReleaseAndInitialisationEnd : Prop :=
  ∀ s : State,
    exec .hardReset s = .next { State.reset with
      cells := s.cells, pending := s.pending, win := { Window.reset with resetApplied := true } } ∧
    (s.win.resetApplied = true → exec .resetRelease s = .next { s with win := Window.reset }) ∧
    (s.win.resetApplied = false → exec .resetRelease s = .next s) ∧
    (s.win.resetApplied = false → s.win.engine = .initialising →
      exec .initialisationEnd s = .next { s with win := { s.win with engine := .idle } }) ∧
    (s.win.resetApplied = true ∨ s.win.engine ≠ .initialising → exec .initialisationEnd s = .next s)

/-- The writes of the registers that no COMMAND write is. A CONTROL write with the soft reset request set is a soft
reset in any engine state: everything as after a hard reset but the table's contents, the pool settings, the output
settings, IRQ_ENABLE and the master enable; with the request clear it sets the master enable alone (R138, R180). By the
model's choice the soft reset also keeps the bytes of the cells and the waiting commands (notes/assumptions/2.md and
3.md), leaves the data bus, the copy of the parameters and the place of the SYNC stream as after a hard reset
(notes/assumptions/9.md and 13.md), and clears LINK_FAULTS, where R124 differs from R138 and R174
(notes/assumptions/22.md).
REGISTER_WRITE stores the word in the PARAM register named, or the six enable flags of the word in IRQ_ENABLE, and is
ignored at every other register of the row; IRQ_CAUSE_WRITE clears the latched causes in whose positions the word
holds ones, and nothing else (R125, R135 to R137). -/
def Obligations.ControlRegisterAndCauseWrites : Prop :=
  ∀ (s : State) (w : Word), s.win.resetApplied = false →
    (w.getLsbD 15 = true → ∃ t, exec (.softReset w) s = .next t ∧
      t = { State.reset with
        cells := s.cells
        pending := s.pending
        pool := { Pool.reset with
          floor := s.pool.floor, advance := s.pool.advance, holdLimit := s.pool.holdLimit }
        table := s.table
        outs := t.outs
        linkOuts := t.linkOuts
        win := { Window.reset with irqEnable := s.win.irqEnable, masterEnable := s.win.masterEnable } } ∧
      (∀ p, t.outs.get p = { Output.reset with yieldCount := (s.outs.get p).yieldCount }) ∧
      ∀ p, t.linkOuts.get p =
        { s.linkOuts.get p with queueState := .closed, holdTimer := .stopped, stallTimer := .stopped }) ∧
    (w.getLsbD 15 = false → exec (.masterEnableWrite w) s =
      .next { s with win := { s.win with masterEnable := w.getLsbD 0 } }) ∧
    exec (.registerWrite .param0 w) s =
      .next { s with win := { s.win with params := { s.win.params with w0 := w } } } ∧
    exec (.registerWrite .param1 w) s =
      .next { s with win := { s.win with params := { s.win.params with w1 := w } } } ∧
    exec (.registerWrite .param2 w) s =
      .next { s with win := { s.win with params := { s.win.params with w2 := w } } } ∧
    exec (.registerWrite .param3 w) s =
      .next { s with win := { s.win with params := { s.win.params with w3 := w } } } ∧
    (∃ e : Word, exec (.registerWrite .irqEnable w) s = .next { s with win := { s.win with irqEnable := e } } ∧
      ∀ i, e.getLsbD i = (w.getLsbD i && decide (i ∈ [0, 1, 2, 8, 9, 10]))) ∧
    (∀ r ∈ [PlainReg.error, .result0, .result1, .result2, .result3, .linkState, .id],
      exec (.registerWrite r w) s = .next s) ∧
    exec (.irqCauseWrite w) s = .next { s with win := { s.win with
      cmdDone := s.win.cmdDone && !w.getLsbD 0
      dataReq := s.win.dataReq && !w.getLsbD 1
      linkChange := s.win.linkChange && !w.getLsbD 2 } }

/-- A COMMAND write that is not taken: ignored while a hard reset is applied; discarded with OVERRUN and no
other effect when the engine is not IDLE, except an ABORT in a data phase. Every other host write is ignored too
while a hard reset is applied, and DATA outside its phases (R125, R128, R133, R140). -/
def Obligations.WritesNotTaken : Prop :=
  ∀ s : State,
    (∀ c, isCommandWrite c = true → s.win.resetApplied = true → exec c s = .next s) ∧
    (∀ c, isCommandWrite c = true → s.win.resetApplied = false → s.win.engine ≠ .idle →
      c ≠ .abort ∨ s.win.engine.xreq = false →
      exec c s = .next { s with win := { s.win with overrun := true } }) ∧
    (∀ w r, s.win.resetApplied = true →
      exec (.softReset w) s = .next s ∧ exec (.masterEnableWrite w) s = .next s ∧
      exec (.irqCauseWrite w) s = .next s ∧ exec (.registerWrite r w) s = .next s ∧
      exec (.dataWrite w) s = .next s) ∧
    ∀ w, (∀ d cursor, s.win.engine ≠ .writePhase d cursor) → exec (.dataWrite w) s = .next s

/-- A write of an unknown code to COMMAND (R143): taken in IDLE it ends with BAD_COMMAND and changes nothing
beyond R129, with OVERRUN cleared; in every other engine state it is discarded with OVERRUN. A word written to address 4
is matched as a whole 16-bit word: each code of section 11.4 is its command, and every word but these sixteen is unknown
(R181). That LINK_CONTROL is the row of the action that PARAM1 names (R152) is the model's reading
(notes/assumptions/7.md). -/
def Obligations.UnknownCommandCode : Prop :=
  (∀ param1 w : Word,
    commandOfWrite param1 4#4 w = commandOfCode param1 w ∧
    (commandOfCode param1 w = .badCommand ↔ w.toNat ∉
      [0x0001, 0x0002, 0x0003, 0x0004, 0x0010, 0x0011, 0x0020, 0x0021, 0x0022, 0x0023, 0x0030, 0x0031, 0x0040,
        0x0041, 0x0042, 0x0050]) ∧
    commandOfCode param1 0x0001#16 = .send ∧ commandOfCode param1 0x0002#16 = .recv ∧
    commandOfCode param1 0x0003#16 = .skip ∧ commandOfCode param1 0x0004#16 = .abort ∧
    commandOfCode param1 0x0010#16 = .tableWrite ∧ commandOfCode param1 0x0011#16 = .tableRead ∧
    commandOfCode 1 0x0020#16 = .enable ∧ commandOfCode 2 0x0020#16 = .disable ∧
    commandOfCode 3 0x0020#16 = .restart ∧ commandOfCode param1 0x0021#16 = .portConfig ∧
    commandOfCode param1 0x0022#16 = .portFlush ∧ commandOfCode param1 0x0023#16 = .readPort ∧
    commandOfCode param1 0x0030#16 = .setPool ∧ commandOfCode param1 0x0031#16 = .readPool ∧
    commandOfCode param1 0x0040#16 = .readCounter ∧ commandOfCode param1 0x0041#16 = .clearCounters ∧
    commandOfCode param1 0x0042#16 = .takeRecord ∧ commandOfCode param1 0x0050#16 = .clearSwitch) ∧
  ∀ s : State, s.win.resetApplied = false →
    (s.win.engine = .idle → ∃ t, exec .badCommand s = .next t ∧
      t = { s with win := { s.win with
        engine := .idle, error := .badCommand, overrun := false, taken := s.win.params,
        results := ⟨0, 0, 0, 0⟩, cmdDone := true } } ∧
      t.statusWord.getLsbD 3 = true ∧ (t.readRegister 1#4).toNat = 16) ∧
    (s.win.engine ≠ .idle →
      exec .badCommand s = .next { s with win := { s.win with overrun := true } })

/-- STATUS, IRQ_CAUSE, IRQ# and LINKSTATE as functions of the state (R126, R136, R137, R139, R140, R180), with the
values of the error and cause codes and of the link states (section 11.4). -/
def Obligations.WindowWordsShowTheState : Prop :=
  ([Code.ok, .noDescriptor, .invalidDest, .selfRoute, .hopExpired, .portClosed, .queueFull, .checkFail,
      .lengthMismatch, .cutIn, .stalled, .linkLost, .linkFault].map codeValue =
    [0, 1, 2, 3, 4, 5, 6, 7, 8, 9, 10, 11, 12]) ∧
  ([Code.badCommand, .badParam, .badState, .anchored, .linksActive, .poolLow, .holdLimit, .queueEmpty, .noRecord,
      .noTransfer, .aborted].map codeValue = [16, 17, 18, 19, 20, 21, 22, 23, 24, 25, 26]) ∧
  ([LinkState.disabled, .listen, .sync, .run, .faulted].map linkStateValue = [0, 1, 2, 3, 4]) ∧
  ∀ s : State,
    let hostq := s.outs.p0.express ≠ [] ∨ s.outs.p0.standard ≠ []
    let low := s.pool.freeList.length < s.pool.floor
    (∀ i, s.statusWord.getLsbD i = true ↔
      (i = 0 ∧ s.win.engine ≠ .initialising) ∨
      (i = 1 ∧ s.win.engine ≠ .idle ∧ s.win.engine.xreq = false) ∨
      (i = 2 ∧ s.win.engine.xreq = true) ∨ (i = 3 ∧ s.win.error ≠ .ok) ∨ (i = 4 ∧ s.win.overrun = true) ∨
      (i = 8 ∧ hostq) ∨ (i = 9 ∧ s.records.list ≠ []) ∨ (i = 10 ∧ low)) ∧
    (∀ i, s.causeWord.getLsbD i = true ↔
      (i = 0 ∧ s.win.cmdDone = true) ∨ (i = 1 ∧ s.win.dataReq = true) ∨ (i = 2 ∧ s.win.linkChange = true) ∨
      (i = 8 ∧ hostq) ∨ (i = 9 ∧ s.records.list ≠ []) ∨ (i = 10 ∧ low)) ∧
    (s.irqLow = true ↔ s.win.resetApplied = false ∧ s.win.masterEnable = true ∧
      ∃ i, s.causeWord.getLsbD i = true ∧ s.win.irqEnable.getLsbD i = true) ∧
    (let field (k : Nat) : Nat := s.linkStateWord.toNat / 2 ^ k % 32
     let v (p : LinkId) : Nat := linkStateValue (s.links.get p).state
     field 0 = 5 * v .l1 + v .l2 ∧ field 5 = 5 * v .l3 + v .l4 ∧ field 10 = 5 * v .l5 + v .l6 ∧
       s.linkStateWord.getLsbD 15 = false) ∧
    (s.win.resetApplied = true → ∀ a, a ≠ 14#4 → a ≠ 15#4 → s.readRegister a = 0) ∧
    (s.readRegister 14#4 = s.linkStateWord ∧ s.readRegister 15#4 = 0x4D61#16) ∧
    (s.win.resetApplied = false →
      s.readRegister 0#4 = s.statusWord ∧ (s.readRegister 1#4).toNat = codeValue s.win.error ∧
      s.readRegister 2#4 = s.causeWord ∧ s.readRegister 3#4 = s.win.irqEnable ∧ s.readRegister 4#4 = 0 ∧
      s.readRegister 5#4 = s.win.params.w0 ∧ s.readRegister 6#4 = s.win.params.w1 ∧
      s.readRegister 7#4 = s.win.params.w2 ∧ s.readRegister 8#4 = s.win.params.w3 ∧
      s.readRegister 9#4 = s.win.results.w0 ∧ s.readRegister 10#4 = s.win.results.w1 ∧
      s.readRegister 11#4 = s.win.results.w2 ∧ s.readRegister 12#4 = s.win.results.w3)

/-- The POOL_LOW level (R31): true exactly while the free list is shorter than F, shown in bit 10 of STATUS
and of IRQ_CAUSE, where it drives IRQ# when enabled; false in every state with F = 0; never made true by a refill, and no refill takes place while it
is true; false after each reset and after CLEAR_SWITCH, when the free list holds 1024 cells, with F in its range 0 to
256. -/
def Obligations.PoolLowLevel : Prop :=
  ∀ s : State,
    (s.poolLow = true ↔ s.pool.freeList.length < s.pool.floor) ∧
    (s.statusWord.getLsbD 10 = s.poolLow ∧ s.causeWord.getLsbD 10 = s.poolLow) ∧
    (s.poolLow = true → s.win.irqEnable.getLsbD 10 = true → s.win.masterEnable = true →
      s.win.resetApplied = false → s.irqLow = true) ∧
    (s.pool.floor = 0 → s.poolLow = false) ∧
    (s.poolLow = false → ∀ t, exec .refill s = .next t → t.poolLow = false) ∧
    (s.poolLow = true → exec .refill s = .next s) ∧
    (s.pool.floor ≤ 256 →
      (∀ t, exec .hardReset s = .next t → t.pool.freeList.length = 1024 ∧ t.poolLow = false) ∧
      (∀ w t, s.win.resetApplied = false → w.getLsbD 15 = true → exec (.softReset w) s = .next t →
        t.pool.freeList.length = 1024 ∧ t.poolLow = false) ∧
      ∀ t, HostReady s → s.allDisabled = true → exec .clearSwitch s = .next t →
        t.pool.freeList.length = 1024 ∧ t.poolLow = false)

/-! ## SEND, DATA, ABORT -/

/-- The checks of SEND in their order (R144): parameters, descriptor, hold limit, free cells. The first that
fails ends SEND with its code; nothing is allocated and all results read 0. -/
def Obligations.SendRefusedByItsChecks : Prop :=
  ∀ s : State, HostReady s →
    let w := s.win.params
    let legal := w.w3.toNat ≤ 1016 ∧ w.w1.toNat ≤ 1 ∧ w.w2.toNat ≤ 15
    let k := (4 + w.w3.toNat + 63) / 64
    (¬ legal → exec .send s = .next (s.afterCommand .badParam ⟨0, 0, 0, 0⟩)) ∧
    (legal → (∀ d, s.desc d ≠ none) → exec .send s = .next (s.afterCommand .noDescriptor ⟨0, 0, 0, 0⟩)) ∧
    (legal → (∃ d, s.desc d = none) → s.pool.holdLimit.p0 < s.pool.held.p0 + k →
      exec .send s = .next (s.afterCommand .holdLimit ⟨0, 0, 0, 0⟩)) ∧
    (legal → (∃ d, s.desc d = none) → s.pool.held.p0 + k ≤ s.pool.holdLimit.p0 → s.pool.freeList.length < k →
      exec .send s = .next (s.afterCommand .poolLow ⟨0, 0, 0, 0⟩))

/-- A SEND that passes its checks takes k cells from the head of the free list and the lowest-numbered FREE
descriptor in one event, stores the four header bytes, and begins its write phase, or is complete at once when
LENGTH is 0 (R29, R36, R38, R144, R145, R179). -/
def Obligations.SendAllocatesItsFrame : Prop :=
  ∀ (s : State) (d : DescId), HostReady s → Memory.wf s.cells → LowestFree s d →
    let w := s.win.params
    let k := (4 + w.w3.toNat + 63) / 64
    w.w3.toNat ≤ 1016 → w.w1.toNat ≤ 1 → w.w2.toNat ≤ 15 →
    s.pool.held.p0 + k ≤ s.pool.holdLimit.p0 → k ≤ s.pool.freeList.length →
    let chain := s.pool.freeList.take k
    let cls : Sys2Proof.Class := if w.w1 = 0 then .standard else .express
    ∃ t, exec .send s = .next t ∧
      t = { s with
        cells := t.cells
        pool := { s.pool with
          freeList := s.pool.freeList.drop k, held := { s.pool.held with p0 := s.pool.held.p0 + k } }
        descs := s.descs.set d.val (some
          { state := .assembling, source := .p0, stamp := s.stamp,
            header := some ⟨w.w0.setWidth 8, cls, w.w2.setWidth 4, 0, w.w3⟩, chain := chain,
            copies := PerPort.const none }) d.isLt
        stamp := s.stamp + 1
        win := { s.win with
          engine := if w.w3 = 0 then .executingSend d else .writePhase d 0
          error := .ok, overrun := false, taken := w
          dataReq := s.win.dataReq || decide (w.w3 ≠ 0) } } ∧
      t.frameByte chain 0 = w.w0.setWidth 8 ∧
      t.frameByte chain 1 = (w.w1.setWidth 1 ++ w.w2.setWidth 4 ++ (0 : BitVec 3) : BitVec 8) ∧
      t.frameByte chain 2 = w.w3.extractLsb' 8 8 ∧
      t.frameByte chain 3 = w.w3.extractLsb' 0 8 ∧
      ∀ a, (∀ i, i < 4 → chainAddr? chain i ≠ some a) → Memory.read t.cells a = Memory.read s.cells a

/-- A DATA write in the write phase stores payload byte 2 × cursor from its high half and, when it lies below
LENGTH, payload byte 2 × cursor + 1 from its low half, and raises the cursor; the last word completes the frame and
the engine is EXECUTING again (R130, R131). Stored byte k of a frame stands in cell floor(k / 64) of its chain at
offset k mod 64 (R3, R130). -/
def Obligations.DataWriteStoresAWord : Prop :=
  (∀ (chain : List CellId) (k : Nat),
    chainAddr? chain k = (chain[k / 64]?).map fun c => 64 * c.val + k % 64) ∧
  ∀ (s : State) (w : Word) (d : DescId) (cursor : Nat) (x : Descriptor) (h : Header),
    s.win.resetApplied = false → s.win.engine = .writePhase d cursor → Memory.wf s.cells →
    s.desc d = some x → x.header = some h → x.chain.length = (4 + h.length.toNat + 63) / 64 →
    2 * cursor < h.length.toNat →
    let last := (h.length.toNat + 1) / 2 ≤ cursor + 1
    ∃ t, exec (.dataWrite w) s = .next t ∧
      t = { s with
        cells := t.cells
        win := { s.win with engine := if last then .executingSend d else .writePhase d (cursor + 1) } } ∧
      t.frameByte x.chain (4 + 2 * cursor) = w.extractLsb' 8 8 ∧
      (2 * cursor + 1 < h.length.toNat → t.frameByte x.chain (4 + 2 * cursor + 1) = w.extractLsb' 0 8) ∧
      ∀ a, chainAddr? x.chain (4 + 2 * cursor) ≠ some a →
        (2 * cursor + 1 < h.length.toNat → chainAddr? x.chain (4 + 2 * cursor + 1) ≠ some a) →
        Memory.read t.cells a = Memory.read s.cells a

/-- RESOLUTION of a completed SEND: the frame is resolved with port 0 as its source, and SEND ends with the
discard cause and zero results, or with OK, the set of outputs that received copies, the number of refused members
and the stamp (R71, R146, R182). With no completed SEND nothing happens, which is the model's choice
(notes/assumptions/5.md). -/
def Obligations.ResolutionEndsSend : Prop :=
  ∀ (s : State),
    (∀ (d : DescId) (x : Descriptor) (h : Header) (t : State), s.win.engine = .executingSend d →
      s.desc d = some x → x.header = some h →
      (∀ cause, s.resolve d .p0 h = (.discard cause, t) →
        exec .resolution s = .next { t with win := { t.win with
          engine := .idle, error := cause, results := ⟨0, 0, 0, 0⟩, cmdDone := true } }) ∧
      ∀ outputs refused pointer, s.resolve d .p0 h = (.place outputs refused pointer, t) →
        ∃ set : Word, exec .resolution s = .next { t with win := { t.win with
          engine := .idle, error := .ok, cmdDone := true,
          results := ⟨set, BitVec.ofNat 16 refused.length, x.stamp, 0⟩ } } ∧
          ∀ i, set.getLsbD i = decide (∃ p ∈ outputs, p.num = i)) ∧
    ((∀ d, s.win.engine ≠ .executingSend d) → exec .resolution s = .next s)

/-- ABORT: NO_TRANSFER in IDLE; in the write phase the SEND's frame is dropped with its descriptor and cells
and SEND ends with ABORTED and zero results; in the read phase the copy is released as lost and RECV ends with
ABORTED, its header results kept (R134, R150). -/
def Obligations.AbortEndsADataPhase : Prop :=
  ∀ s : State, s.win.resetApplied = false →
    (s.win.engine = .idle → exec .abort s = .next (s.afterCommand .noTransfer ⟨0, 0, 0, 0⟩)) ∧
    (∀ d cursor, s.win.engine = .writePhase d cursor →
      exec .abort s = .next { s.freeDesc d with win := { s.win with
        engine := .idle, error := .aborted, overrun := false, results := ⟨0, 0, 0, 0⟩, cmdDone := true } }) ∧
    (∀ cursor dep, s.win.engine = .readPhase cursor → s.outs.p0.departing = some dep →
      ∃ t, t = { s with outs := { s.outs with p0 := { s.outs.p0 with departing := none } } }.releaseCopy
          .p0 dep.desc ∧
        exec .abort s = .next { t with
          counters := { t.counters with
            p0 := { t.counters.p0 with copiesLost := satAdd t.counters.p0.copiesLost 1 } }
          win := { s.win with engine := .idle, error := .aborted, overrun := false, cmdDone := true } })

/-! ## Cells, descriptors, copies -/

/-- A descriptor freed returns its whole chain to the tail of the free list in chain order, and its source's
held count falls by the chain's length (R27). The release of a copy takes it from the copy set; with the last one
the descriptor goes to FREE, and otherwise no cell moves (R46). A purge releases EXPRESS from head to tail, then
STANDARD, one release after another (R48, R89). -/
def Obligations.ReleaseOfCopiesAndChains : Prop :=
  (∀ (s : State) (p : Port), s.releaseAll p [] = s ∧
    ∀ (d : DescId) (ds : List DescId), s.releaseAll p (d :: ds) = (s.releaseCopy p d).releaseAll p ds) ∧
  ∀ (s : State) (d : DescId) (x : Descriptor), s.desc d = some x →
    s.freeDesc d = { s with
      pool := { s.pool with
        freeList := s.pool.freeList ++ x.chain
        held := s.pool.held.set x.source (s.pool.held.get x.source - x.chain.length) }
      descs := s.descs.set d.val none d.isLt } ∧
    (∀ p, x.copies.get p ≠ none → (∀ q, q ≠ p → x.copies.get q = none) →
      s.releaseCopy p d = s.freeDesc d) ∧
    (∀ p q, x.copies.get p ≠ none → q ≠ p → x.copies.get q ≠ none →
      s.releaseCopy p d = { s with
        descs := s.descs.set d.val (some { x with copies := x.copies.set p none }) d.isLt }) ∧
    ∀ p, s.purge p = ({ s with outs := s.outs.set p { s.outs.get p with express := [], standard := [] } }).releaseAll
        p ((s.outs.get p).express ++ (s.outs.get p).standard)

/-- A record made takes the sequence counter's value, which rises by 1 with 65535 followed by 0, and joins
the tail of the list, or is lost to overflow when the list holds 16, the count staying at 255 (R166 to R168). The
counter and the overflow count are 0 after a hard and a soft reset; TAKE_RECORD, CLEAR_COUNTERS and CLEAR_SWITCH
leave both as they were, and every TAKE_RECORD reports the overflow count. -/
def Obligations.RecordSequenceAndOverflow : Prop :=
  (∀ (l : RecordLog) (r : Record),
    (l.list.length < 16 → l.append r =
      { list := l.list ++ [{ r with seq := l.nextSeq }], nextSeq := l.nextSeq + 1, overflow := l.overflow }) ∧
    (16 ≤ l.list.length → l.overflow < 255 → l.append r =
      { list := l.list, nextSeq := l.nextSeq + 1, overflow := l.overflow + 1 }) ∧
    (16 ≤ l.list.length → l.overflow = 255 → l.append r =
      { list := l.list, nextSeq := l.nextSeq + 1, overflow := 255 })) ∧
  (65535#16 + 1 = (0 : Word)) ∧
  ∀ (s : State) (w : Word) (t : State),
    (exec .hardReset s = .next t → t.records.nextSeq = 0 ∧ t.records.overflow = 0) ∧
    (s.win.resetApplied = false → w.getLsbD 15 = true → exec (.softReset w) s = .next t →
      t.records.nextSeq = 0 ∧ t.records.overflow = 0) ∧
    (exec .takeRecord s = .next t → t.records.nextSeq = s.records.nextSeq ∧
      t.records.overflow = s.records.overflow) ∧
    (HostReady s → s.records.overflow ≤ 255 → exec .takeRecord s = .next t →
      t.win.results.w2.toNat / 256 = s.records.overflow) ∧
    (exec .clearCounters s = .next t → t.records = s.records) ∧
    (exec .clearSwitch s = .next t → t.records = s.records) ∧
    (exec .clearSwitchEnd s = .next t → t.records = s.records)

/-! ## Route resolution -/

/-- The four exclusion steps in their order (R60, R62): the candidates are the members that no step removes,
and when none is left the cause names the step that removed the last one. Port 0's reflect is on and its queue OPEN
in every state. -/
def Obligations.ExclusionStepsInOrder : Prop :=
  ∀ (s : State) (source : Port) (hops : BitVec 4) (cls : Sys2Proof.Class) (ms : List Port),
    let self (p : Port) : Prop := p = source ∧ s.reflect source = false
    let hop (p : Port) : Prop := p ≠ .p0 ∧ hops = 0
    let closed (p : Port) : Prop := s.queueState p = .closed
    let full (p : Port) : Prop := 32 ≤ ((s.outs.get p).queue cls).length
    (s.reflect .p0 = true ∧ s.queueState .p0 = .opened) ∧
    (∀ p : LinkId, s.reflect p.port = (s.linkOuts.get p).reflect ∧
      s.queueState p.port = (s.linkOuts.get p).queueState) ∧
    ((∀ p ∈ ms, self p) → s.candidates source hops cls ms = .error .selfRoute) ∧
    ((∃ p ∈ ms, ¬ self p) → (∀ p ∈ ms, self p ∨ hop p) → s.candidates source hops cls ms = .error .hopExpired) ∧
    ((∃ p ∈ ms, ¬ (self p ∨ hop p)) → (∀ p ∈ ms, self p ∨ hop p ∨ closed p) →
      s.candidates source hops cls ms = .error .portClosed) ∧
    ((∃ p ∈ ms, ¬ (self p ∨ hop p ∨ closed p)) → (∀ p ∈ ms, self p ∨ hop p ∨ closed p ∨ full p) →
      s.candidates source hops cls ms = .error .queueFull) ∧
    ((∃ p ∈ ms, ¬ (self p ∨ hop p ∨ closed p ∨ full p)) → ∃ cands, cands ≠ [] ∧ cands.Sublist ms ∧
      (∀ p, p ∈ cands ↔ p ∈ ms ∧ ¬ (self p ∨ hop p ∨ closed p ∨ full p)) ∧
      s.candidates source hops cls ms = .ok cands)

/-- An INVALID entry discards the frame with INVALID_DEST; a SINGLE entry gives it one copy when its one
member stays a candidate, and otherwise discards it with the cause of the step that removed the member (R63, R64).
The class of the copies follows the class rule (R59). -/
def Obligations.InvalidAndSingleEntries : Prop :=
  ∀ (s : State) (source : Port) (h : Header),
    let e := s.entry h.dest
    (∀ c : Sys2Proof.Class, copyClass .keep c = c ∧ copyClass .forceExpress c = .express ∧
      copyClass .forceStandard c = .standard) ∧
    (e.kind = .invalid → s.decideRoute source h = .discard .invalidDest) ∧
    (e.kind = .single → ∀ p, members e.ports = [p] →
      (∀ cause, s.candidates source h.hops (copyClass e.rule h.cls) [p] = .error cause →
        s.decideRoute source h = .discard cause) ∧
      (∀ cands, s.candidates source h.hops (copyClass e.rule h.cls) [p] = .ok cands →
        s.decideRoute source h = .place [p] [] none))

/-- A SPREAD entry with a candidate left chooses one: an OPEN one when any is OPEN, among those the fewest
pending copies, and among those the first from the rotation pointer + 1 upward, 6 followed by 0; and the pointer
moves to it (R65, R66). With no candidate the frame is discarded and no pointer moves. -/
def Obligations.SpreadChoiceInThreeStages : Prop :=
  ∀ (s : State) (source : Port) (h : Header),
    let e := s.entry h.dest
    let opened (p : Port) : Prop := s.queueState p = .opened
    let waiting (p : Port) : Nat := (s.outs.get p).express.length + (s.outs.get p).standard.length
      + if (s.outs.get p).departing = none then 0 else 1
    let distance (p : Port) : Nat := (p.num + 6 - (s.pointer h.dest).num) % 7
    e.kind = .spread →
    (∀ cause, s.candidates source h.hops (copyClass e.rule h.cls) (members e.ports) = .error cause →
      s.decideRoute source h = .discard cause) ∧
    ∀ cands, s.candidates source h.hops (copyClass e.rule h.cls) (members e.ports) = .ok cands →
      ∃ p ∈ cands, s.decideRoute source h = .place [p] [] (some p) ∧
        ((∃ q ∈ cands, opened q) → opened p) ∧
        (∀ q ∈ cands, (opened q ∨ ∀ r ∈ cands, ¬ opened r) → waiting p ≤ waiting q) ∧
        ∀ q ∈ cands, (opened q ∨ ∀ r ∈ cands, ¬ opened r) → waiting q = waiting p → distance p ≤ distance q

/-- A FANOUT entry with a candidate left gives one copy to each candidate in rising port order; the members
removed by the closed and the full step are refused, in rising port order, each with the step's cause; those of
the self and hop steps are left out; no pointer moves (R67). With no candidate the frame is discarded (R68). -/
def Obligations.FanoutCopiesAndRefusals : Prop :=
  ∀ (s : State) (source : Port) (h : Header),
    let e := s.entry h.dest
    let cls := copyClass e.rule h.cls
    let left (p : Port) : Prop := (p = source ∧ s.reflect source = false) ∨ (p ≠ .p0 ∧ h.hops = 0)
    e.kind = .fanout →
    (∀ cause, s.candidates source h.hops cls (members e.ports) = .error cause →
      s.decideRoute source h = .discard cause) ∧
    ∀ cands, s.candidates source h.hops cls (members e.ports) = .ok cands →
      ∃ refused, s.decideRoute source h = .place cands refused none ∧
        (cands.map Port.num).Pairwise (· < ·) ∧
        (refused.map fun m => m.1.num).Pairwise (· < ·) ∧
        ∀ p cause, (p, cause) ∈ refused ↔ e.ports.getLsbD p.num = true ∧ ¬ left p ∧
          ((s.queueState p = .closed ∧ cause = .portClosed) ∨
            (s.queueState p ≠ .closed ∧ 32 ≤ ((s.outs.get p).queue cls).length ∧ cause = .queueFull))

/-- What a resolution hands on (R42, R43, R69, R70, R76). FRAMES_IN of the source rises in every case. Copies
placed join the tails of their class queues and the copy set, the descriptor becomes STORED, a SPREAD pointer moves,
and each refused member raises COPIES_LOST of its output and, for a link source, makes a record. A discard frees the
descriptor with its chain, raises DISCARDS_IN and, for a link source, makes one record. Nothing else changes. A
counter that rises by n past 4294967295 holds 4294967295 (R174). -/
def Obligations.ResolutionHandsOnItsOutcome : Prop :=
  (∀ (c : Count32) (n : Nat), (satAdd c n).toNat = min (c.toNat + n) 4294967295) ∧
  ∀ (s : State) (d : DescId) (source : Port) (x : Descriptor) (h : Header), s.desc d = some x →
    let cls := copyClass (s.entry h.dest).rule h.cls
    (∀ outputs refused pointer, s.decideRoute source h = .place outputs refused pointer →
      ∃ t y, s.resolve d source h = (.place outputs refused pointer, t) ∧
        t = { s with
          descs := s.descs.set d.val (some y) d.isLt
          outs := t.outs
          counters := t.counters
          rotation := match pointer with
            | some p => s.rotation.set h.dest.toNat p h.dest.isLt
            | none => s.rotation
          records := if source = .p0 then s.records else
            refused.foldl (fun l m =>
              l.append ⟨0, m.2, some source, some m.1, some (h.dest, h.length), none, none⟩) s.records } ∧
        y = { x with state := .stored, copies := y.copies } ∧
        (∀ p, y.copies.get p = if p ∈ outputs then some ⟨cls, .queued⟩ else x.copies.get p) ∧
        (∀ p, t.outs.get p =
          let o := s.outs.get p
          if p ∈ outputs then
            match cls with
            | .express => { o with express := o.express ++ [d] }
            | .standard => { o with standard := o.standard ++ [d] }
          else o) ∧
        ∀ p, t.counters.get p = { s.counters.get p with
          framesIn := satAdd (s.counters.get p).framesIn (if p = source then 1 else 0)
          copiesLost := satAdd (s.counters.get p).copiesLost
            (if p ∈ refused.map Prod.fst then 1 else 0) }) ∧
    ∀ cause, s.decideRoute source h = .discard cause →
      s.resolve d source h = (.discard cause, { s.freeDesc d with
        counters := s.counters.set source { s.counters.get source with
          framesIn := satAdd (s.counters.get source).framesIn 1
          discardsIn := satAdd (s.counters.get source).discardsIn 1 }
        records := if source = .p0 then s.records else
          s.records.append ⟨0, cause, some source, none, some (h.dest, h.length), none, none⟩ })

/-! ## Bring-up and receiving -/

/-- In DISABLED and FAULTED every character is ignored, and in LISTEN every character but HELLO (R100 to R102).
The commands of the seven rows then change nothing. -/
def Obligations.IgnoredCharacters : Prop :=
  ∀ (s : State) (p : LinkId),
    let st := (s.links.get p).state
    (st = .disabled ∨ st = .listen ∨ st = .faulted →
      (∀ b, exec (.dataReceived p b) s = .next s) ∧ exec (.endGoodReceived p) s = .next s ∧
      exec (.endCutReceived p) s = .next s ∧ (∀ n, exec (.creditReceived p n) s = .next s) ∧
      exec (.idleReceived p) s = .next s ∧ exec (.codeErrorReceived p) s = .next s) ∧
    (st = .disabled ∨ st = .faulted → exec (.helloReceived p) s = .next s)

/-- Bring-up: HELLO in LISTEN enters SYNC with its timers started (R103); HELLO in SYNC restarts the silence
timer alone; IDLE and CREDIT(n) in SYNC enter RUN, the output becomes OPEN with its hold timer stopped, LINK_CHANGE
is latched, and CREDIT(n) sets the transmit credit to n (R78, R104, R106). -/
def Obligations.BringUpByHelloIdleAndCredit : Prop :=
  ∀ (s : State) (p : LinkId),
    let l := s.links.get p
    let run (credit : Nat) : State := { s with
      links := s.links.set p { l with
        state := .run, txCredit := credit, syncTimer := .stopped, silenceTimer := .running 64, rx := none }
      linkOuts := s.linkOuts.set p { s.linkOuts.get p with queueState := .opened, holdTimer := .stopped }
      win := { s.win with linkChange := true } }
    (l.state = .listen → exec (.helloReceived p) s = .next { s with
      links := s.links.set p { l with
        state := .sync, txCredit := 0, syncTimer := .running 2000, silenceTimer := .running 64, rx := none,
        syncStep := .hello } }) ∧
    (l.state = .sync → exec (.helloReceived p) s = .next { s with links := s.links.set p (l.heard l.rx) }) ∧
    (l.state = .sync → exec (.idleReceived p) s = .next (run l.txCredit)) ∧
    (l.state = .sync → ∀ n, 1 ≤ n → n ≤ 16 → exec (.creditReceived p n) s = .next (run n))

/-- IDLE in RUN restarts the silence timer alone (R8, R107). CREDIT(n) in RUN raises the transmit credit by n
when the sum is 64 or less, and ends the wait of a departure at a group start, its stall timer stopped; a sum above
64 is the fault CREDIT_OVERRUN (R86, R110). The frame in progress stays as it is. -/
def Obligations.IdleAndCreditInRun : Prop :=
  ∀ (s : State) (p : LinkId),
    let l := s.links.get p
    let raised (n : Nat) : State :=
      { s with links := s.links.set p { l.heard l.rx with txCredit := l.txCredit + n } }
    l.state = .run →
    exec (.idleReceived p) s = .next { s with links := s.links.set p (l.heard l.rx) } ∧
    ∀ n, 1 ≤ n → n ≤ 16 →
      (64 < l.txCredit + n → exec (.creditReceived p n) s = .next (s.fault p .creditOverrun)) ∧
      (l.txCredit + n ≤ 64 → (∀ dep, (s.outs.get p.port).departing = some dep → dep.waiting = false) →
        exec (.creditReceived p n) s = .next (raised n)) ∧
      (l.txCredit + n ≤ 64 → ∀ dep, (s.outs.get p.port).departing = some dep → dep.waiting = true →
        exec (.creditReceived p n) s = .next { raised n with
          outs := s.outs.set p.port { s.outs.get p.port with departing := some { dep with waiting := false } }
          linkOuts := s.linkOuts.set p { s.linkOuts.get p with stallTimer := .stopped } })

/-- DATA in RUN with no frame in progress starts a frame at position 0 (R24 to R26, R37, R40): a group start
that takes the lowest reserve cell. With a FREE descriptor the lowest-numbered one is allocated with that cell as
its chain and the byte is stored; with none the cell goes to the tail of the free list and the frame is sunk; with
no credit outstanding it is the fault RX_OVERRUN, the frame counted as one in progress without a header. -/
def Obligations.DataStartsAFrame : Prop :=
  ∀ (s : State) (p : LinkId) (b : Byte),
    let l := s.links.get p
    let q := s.pool.links.get p
    l.state = .run → l.rx = none →
    (q.outstanding = 0 → exec (.dataReceived p b) s = .next (s.enterFaulted p .rxOverrun (some none))) ∧
    ∀ o c rest, q.outstanding = o + 1 → q.reserve = c :: rest →
      let frame (disp : Disposition) : RxFrame := ⟨1, [b], none, crcByte 0xFFFF#16 b, 0, disp⟩
      let links := s.pool.links.set p ⟨rest, o, q.pendingCredit⟩
      (∀ d, LowestFree s d → Memory.wf s.cells → ∃ t, exec (.dataReceived p b) s = .next t ∧
        t = { s with
          cells := t.cells
          pool := { s.pool with
            links := links, held := s.pool.held.set p.port (s.pool.held.get p.port + 1) }
          descs := s.descs.set d.val
            (some ⟨.assembling, p.port, s.stamp, none, [c], PerPort.const none⟩) d.isLt
          stamp := s.stamp + 1
          links := s.links.set p (l.heard (some (frame (.storing d)))) } ∧
        StoresOnly s t (some (64 * c.val)) b) ∧
      ((∀ d, s.desc d ≠ none) → exec (.dataReceived p b) s = .next { s with
        pool := { s.pool with links := links, freeList := s.pool.freeList ++ [c] }
        links := s.links.set p (l.heard (some (frame .sinkingNoDescriptor))) })


/-- DATA at positions 1 to 3 (R2, R11): the byte is stored for a STORING frame and fed to the check. At
position 3 the header becomes known, in the descriptor too for a STORING frame; a LENGTH of 1017 or more is the
fault OVERSIZE at that character, with the header in its report. -/
def Obligations.DataCompletesTheHeader : Prop :=
  ∀ (s : State) (p : LinkId) (b : Byte) (f : RxFrame),
    let l := s.links.get p
    l.state = .run → l.rx = some f → f.header = none → f.disposition ≠ .sinkingSurplus → Memory.wf s.cells →
    (f.position < 3 → ∃ t, exec (.dataReceived p b) s = .next t ∧
      t = { s with
        cells := t.cells
        links := s.links.set p (l.heard (some { f with
          position := f.position + 1, early := f.early ++ [b], crc := crcByte f.crc b })) } ∧
      StoresOnly s t (s.storedAt f) b) ∧
    ∀ b0 b1 b2, f.position = 3 → f.early = [b0, b1, b2] →
      let h : Header :=
        { dest := b0, cls := if b1.getLsbD 7 then .express else .standard, hops := b1.extractLsb' 3 4,
          spare := b1.extractLsb' 0 3, length := b2 ++ b }
      (1017 ≤ h.length.toNat →
        exec (.dataReceived p b) s = .next (s.enterFaulted p .oversize (some (some h)))) ∧
      (h.length.toNat ≤ 1016 → (∀ d, f.disposition = .storing d → s.desc d ≠ none) →
        ∃ t, exec (.dataReceived p b) s = .next t ∧
        t = { s with
          cells := t.cells
          descs := t.descs
          links := s.links.set p (l.heard (some { f with
            position := 4, early := [], header := some h, crc := crcByte f.crc b })) } ∧
        (∀ d, t.desc d =
          if f.disposition = .storing d then (s.desc d).map fun x => { x with header := some h } else s.desc d) ∧
        StoresOnly s t (s.storedAt f) b)

/-- DATA at a position from 4 to S-1 (R3, R10, R24 to R26): elsewhere than at a group start the byte is
stored for a STORING frame and fed to the check; at a group start the lowest reserve cell joins the chain of a
STORING frame, or goes straight to the tail of the free list for a sunk one; with no credit outstanding it is the
fault RX_OVERRUN. -/
def Obligations.DataFillsTheFrame : Prop :=
  ∀ (s : State) (p : LinkId) (b : Byte) (f : RxFrame) (h : Header),
    let l := s.links.get p
    let q := s.pool.links.get p
    let received := s.links.set p (l.heard (some { f with position := f.position + 1, crc := crcByte f.crc b }))
    l.state = .run → l.rx = some f → f.header = some h → f.disposition ≠ .sinkingSurplus →
    f.position < 4 + h.length.toNat → Memory.wf s.cells →
    (f.position % 64 ≠ 0 → ∃ t, exec (.dataReceived p b) s = .next t ∧
      t = { s with cells := t.cells, links := received } ∧ StoresOnly s t (s.storedAt f) b) ∧
    (f.position % 64 = 0 → q.outstanding = 0 →
      exec (.dataReceived p b) s = .next (s.fault p .rxOverrun)) ∧
    ∀ o c rest, f.position % 64 = 0 → q.outstanding = o + 1 → q.reserve = c :: rest →
      let links := s.pool.links.set p ⟨rest, o, q.pendingCredit⟩
      (∀ d x, f.disposition = .storing d → s.desc d = some x → ∃ t, exec (.dataReceived p b) s = .next t ∧
        t = { s with
          cells := t.cells
          pool := { s.pool with
            links := links, held := s.pool.held.set p.port (s.pool.held.get p.port + 1) }
          descs := s.descs.set d.val (some { x with chain := x.chain ++ [c] }) d.isLt
          links := received } ∧
        StoresOnly s t (chainAddr? (x.chain ++ [c]) f.position) b) ∧
      (f.disposition = .sinkingNoDescriptor → exec (.dataReceived p b) s = .next { s with
        pool := { s.pool with links := links, freeList := s.pool.freeList ++ [c] }
        links := received })

/-- DATA at positions S and S+1 is the check received, high byte first; at position S+2 the outcome is
LENGTH_MISMATCH and the rest of the frame is sunk as surplus; surplus is dropped (R12, R13). A discard at reception
frees a STORING frame's descriptor with its chain, raises DISCARDS_IN and makes one record with the frame's source
and, when known, DEST and LENGTH (R27, R169, R170, R175). -/
def Obligations.DataBeyondTheStoredBytes : Prop :=
  (∀ (s : State) (p : LinkId) (f : RxFrame) (cause : Code),
    let t := match f.disposition with
      | .storing d => s.freeDesc d
      | .sinkingNoDescriptor | .sinkingSurplus => s
    s.discardAtReception p f cause = { t with
      counters := s.counters.set p.port { s.counters.get p.port with
        discardsIn := satAdd (s.counters.get p.port).discardsIn 1 }
      records := s.records.append
        ⟨0, cause, some p.port, none, f.header.map fun h => (h.dest, h.length), none, none⟩ }) ∧
  ∀ (s : State) (p : LinkId) (b : Byte) (f : RxFrame),
    let l := s.links.get p
    let u (g : RxFrame) (t : State) : State := { t with links := s.links.set p (l.heard (some g)) }
    l.state = .run → l.rx = some f →
    (f.disposition = .sinkingSurplus → exec (.dataReceived p b) s = .next (u f s)) ∧
    ∀ h, f.disposition ≠ .sinkingSurplus → f.header = some h →
      let size := 4 + h.length.toNat
      (f.position = size → exec (.dataReceived p b) s =
        .next (u { f with position := size + 1, received := b ++ 0#8 } s)) ∧
      (f.position = size + 1 → exec (.dataReceived p b) s =
        .next (u { f with position := size + 2, received := f.received.extractLsb' 8 8 ++ b } s)) ∧
      (size + 2 ≤ f.position → exec (.dataReceived p b) s =
        .next (u { f with disposition := .sinkingSurplus } (s.discardAtReception p f .lengthMismatch)))

/-- END_GOOD in RUN ends the frame in progress with its outcome by position and check: LENGTH_MISMATCH,
CHECK_FAIL, NO_DESCRIPTOR, nothing more for surplus, or route resolution of the complete frame (R13, R58). END_CUT ends
it with CUT_IN for a STORING frame at any position, NO_DESCRIPTOR for one sunk for lack of a descriptor, and nothing
more for surplus (R14). The receiver is afterwards not in a frame. -/
def Obligations.EndOfAFrameDecidesItsOutcome : Prop :=
  ∀ (s : State) (p : LinkId) (f : RxFrame),
    let l := s.links.get p
    let u : State := { s with links := s.links.set p (l.heard none) }
    l.state = .run → l.rx = some f →
    (f.disposition = .sinkingSurplus →
      exec (.endGoodReceived p) s = .next u ∧ exec (.endCutReceived p) s = .next u) ∧
    (f.disposition = .sinkingNoDescriptor →
      exec (.endGoodReceived p) s = .next (u.discardAtReception p f .noDescriptor) ∧
      exec (.endCutReceived p) s = .next (u.discardAtReception p f .noDescriptor)) ∧
    ∀ d, f.disposition = .storing d →
      exec (.endCutReceived p) s = .next (u.discardAtReception p f .cutIn) ∧
      (f.header = none → exec (.endGoodReceived p) s = .next (u.discardAtReception p f .lengthMismatch)) ∧
      ∀ h, f.header = some h →
        let complete := 4 + h.length.toNat + 2
        (f.position < complete →
          exec (.endGoodReceived p) s = .next (u.discardAtReception p f .lengthMismatch)) ∧
        (complete ≤ f.position → f.crc ≠ f.received →
          exec (.endGoodReceived p) s = .next (u.discardAtReception p f .checkFail)) ∧
        (complete ≤ f.position → f.crc = f.received →
          exec (.endGoodReceived p) s = .next (u.resolve d p.port h).2)

/-! ## Faults, recovery, timers -/

/-- Each fault condition of R113 that is a row of its own, at its event and in its states: CODE_ERROR, SILENCE,
SYNC_TIMEOUT, PROTOCOL and RESTART_SEEN enter FAULTED with that kind. What is lost is the frame in progress, with its
header when it had arrived, and nothing when there is none or it is sinking surplus (R115). An expiry of a timer that is not running does not occur and changes
nothing (notes/assumptions/5.md). -/
def Obligations.FaultConditions : Prop :=
  ∀ (s : State) (p : LinkId),
    let l := s.links.get p
    let lost : Option (Option Header) := match l.rx with
      | none => none
      | some f => match f.disposition with
        | .sinkingSurplus => none
        | .storing _ | .sinkingNoDescriptor => some f.header
    (l.state = .sync ∨ l.state = .run →
      exec (.codeErrorReceived p) s = .next (s.enterFaulted p .codeError lost) ∧
      (l.silenceTimer ≠ .stopped →
        exec (.silenceTimerExpiry p) s = .next (s.enterFaulted p .silence lost))) ∧
    (l.state = .sync →
      (l.syncTimer ≠ .stopped →
        exec (.syncTimerExpiry p) s = .next (s.enterFaulted p .syncTimeout lost)) ∧
      (∀ b, exec (.dataReceived p b) s = .next (s.enterFaulted p .protocol lost)) ∧
      exec (.endGoodReceived p) s = .next (s.enterFaulted p .protocol lost) ∧
      exec (.endCutReceived p) s = .next (s.enterFaulted p .protocol lost)) ∧
    (l.state = .run →
      exec (.helloReceived p) s = .next (s.enterFaulted p .restartSeen lost) ∧
      (l.rx = none →
        exec (.endGoodReceived p) s = .next (s.enterFaulted p .protocol none) ∧
        exec (.endCutReceived p) s = .next (s.enterFaulted p .protocol none))) ∧
    (l.silenceTimer = .stopped → exec (.silenceTimerExpiry p) s = .next s) ∧
    (l.syncTimer = .stopped → exec (.syncTimerExpiry p) s = .next s)

/-- The one event of entering FAULTED (R28, R90, R114, R115). The frame in assembly is lost, then the reserve
is returned in ascending cell number, then the port's items are set, one LINK_FAULT record is made unless the kind is
RESTART_REQ, LINK_FAULTS rises, LINK_CHANGE is latched, and, from RUN, the output cuts its departing copy and becomes
HELD, or purges and becomes CLOSED with hold code 0. A fault of any kind is this event, and the frame it reports lost is
the one in progress, with its header when it had arrived, unless that frame is sinking surplus. -/
def Obligations.EnteringFaulted : Prop :=
  ∀ (s : State) (p : LinkId) (kind : FaultKind) (lost : Option (Option Header)),
    let l := s.links.get p
    let q := s.pool.links.get p
    let cut := decide (l.state = .run) && (s.outs.get p.port).departing.isSome
    let receiver : State := match l.rx with
      | none => s
      | some f => match f.disposition with
        | .storing d => s.freeDesc d
        | .sinkingNoDescriptor | .sinkingSurplus => s
    let port : State := { receiver with
      pool := { receiver.pool with
        freeList := receiver.pool.freeList ++ q.reserve
        links := s.pool.links.set p ⟨[], 0, 0⟩ }
      links := s.links.set p { l with
        state := .faulted, restartRequest := decide (kind = .restartReq), txCredit := 0, rx := none,
        silenceTimer := .stopped, syncTimer := .stopped, recoveryTimer := .running 100,
        endCutOwed := false, line := none }
      records := if kind = .restartReq then s.records else s.records.append
        ⟨0, .linkFault, some p.port, some p.port, (lost.bind id).map fun h => (h.dest, h.length), none,
          some ⟨kind, lost.isSome, cut⟩⟩
      linkFaults := s.linkFaults.set p (satAdd (s.linkFaults.get p) 1)
      win := { s.win with linkChange := true } }
    let noCut : State := match (port.outs.get p.port).departing with
      | none => port
      | some dep =>
        let t := ({ port with
          outs := port.outs.set p.port { port.outs.get p.port with departing := none }
          linkOuts := port.linkOuts.set p { port.linkOuts.get p with stallTimer := .stopped } }).releaseCopy
            p.port dep.desc
        { t with counters := t.counters.set p.port { t.counters.get p.port with
            copiesLost := satAdd (t.counters.get p.port).copiesLost 1 } }
    let code := (s.linkOuts.get p).holdCode
    (l.rx = none → s.fault p kind = s.enterFaulted p kind none) ∧
    (∀ f, l.rx = some f → f.disposition = .sinkingSurplus → s.fault p kind = s.enterFaulted p kind none) ∧
    (∀ f, l.rx = some f → f.disposition ≠ .sinkingSurplus →
      s.fault p kind = s.enterFaulted p kind (some f.header)) ∧
    (l.state = .sync → s.enterFaulted p kind lost = port) ∧
    (l.state = .run → code ≠ 0 → s.enterFaulted p kind lost = { noCut with
      linkOuts := noCut.linkOuts.set p
        { noCut.linkOuts.get p with queueState := .held, holdTimer := .running (timerCodeUs code) } }) ∧
    (l.state = .run → code = 0 →
      let u := noCut.purgeLost p
      s.enterFaulted p kind lost = { u with
        linkOuts := u.linkOuts.set p { u.linkOuts.get p with queueState := .closed, holdTimer := .stopped } })

/-- The end of a hold period (R91): every queued copy is released as lost, EXPRESS first; when any was, one
LINK_LOST record with their number is made and COPIES_LOST rises by it; the output becomes CLOSED. The durations of
the timer codes (R80). An expiry of a hold timer that is not running changes nothing (notes/assumptions/5.md). -/
def Obligations.HoldExpiryPurgesTheOutput : Prop :=
  (∀ code : Byte, (1 ≤ code.toNat → code.toNat ≤ 127 → timerCodeUs code = code.toNat * 100) ∧
    (128 ≤ code.toNat → timerCodeUs code = (code.toNat - 127) * 10000) ∧
    (code ≠ 0 → timerOfCode code = .running (timerCodeUs code)) ∧ (code = 0 → timerOfCode code = .stopped)) ∧
  ∀ (s : State) (p : LinkId),
    let n := (s.outs.get p.port).express.length + (s.outs.get p.port).standard.length
    let t := s.purge p.port
    (s.purgeLost p = if n = 0 then t else { t with
      counters := t.counters.set p.port { t.counters.get p.port with
        copiesLost := satAdd (t.counters.get p.port).copiesLost n }
      records := t.records.append ⟨0, .linkLost, none, some p.port, none, some n, none⟩ }) ∧
    ((s.linkOuts.get p).holdTimer ≠ .stopped →
      let u := s.purgeLost p
      exec (.holdTimerExpiry p) s = .next { u with
        linkOuts := u.linkOuts.set p { u.linkOuts.get p with queueState := .closed, holdTimer := .stopped } }) ∧
    ((s.linkOuts.get p).holdTimer = .stopped → exec (.holdTimerExpiry p) s = .next s)

/-- The end of the recovery period (R101, R116, R123): the link enters LISTEN with its rate from the speed
setting when a restart request is pending or auto-restart is on, and otherwise stays FAULTED with recovery over. An
expiry of a timer that is not running changes nothing (notes/assumptions/5.md). -/
def Obligations.RecoveryEndsInListenOrWaits : Prop :=
  ∀ (s : State) (p : LinkId),
    let l := s.links.get p
    let o := s.linkOuts.get p
    (l.state = .faulted → l.recoveryTimer ≠ .stopped → (l.restartRequest = true ∨ o.autoRestart = true) →
      exec (.recoveryTimerExpiry p) s = .next { s with links := s.links.set p { l with
        state := .listen, rate := o.speed, txCredit := 0, restartRequest := false, rx := none,
        silenceTimer := .stopped, syncTimer := .stopped, recoveryTimer := .stopped } }) ∧
    (l.state = .faulted → l.recoveryTimer ≠ .stopped → l.restartRequest = false → o.autoRestart = false →
      exec (.recoveryTimerExpiry p) s = .next { s with
        links := s.links.set p { l with recoveryTimer := .stopped } }) ∧
    (l.recoveryTimer = .stopped → exec (.recoveryTimerExpiry p) s = .next s)

/-- The expiry of a stall timer (R87, R111): the departing copy is released as lost, END_CUT becomes owed when
a DATA character of the frame had been sent, COPIES_LOST rises by 1, and one STALLED record is made with the frame's
source, DEST and LENGTH. The link stays in RUN. An expiry of a timer that is not running changes nothing
(notes/assumptions/5.md). -/
def Obligations.StallExpiryCutsTheDeparture : Prop :=
  ∀ (s : State) (p : LinkId),
    (∀ dep x h, (s.linkOuts.get p).stallTimer ≠ .stopped → (s.outs.get p.port).departing = some dep →
      s.desc dep.desc = some x → x.header = some h →
      ∃ t, t = ({ s with
          outs := s.outs.set p.port { s.outs.get p.port with departing := none }
          linkOuts := s.linkOuts.set p { s.linkOuts.get p with stallTimer := .stopped }
          links := s.links.set p { s.links.get p with
            endCutOwed := (s.links.get p).endCutOwed || decide (0 < dep.position) } }).releaseCopy
              p.port dep.desc ∧
        exec (.stallTimerExpiry p) s = .next { t with
          counters := t.counters.set p.port { t.counters.get p.port with
            copiesLost := satAdd (t.counters.get p.port).copiesLost 1 }
          records := t.records.append
            ⟨0, .stalled, some x.source, some p.port, some (h.dest, h.length), none, none⟩ }) ∧
    ((s.linkOuts.get p).stallTimer = .stopped → exec (.stallTimerExpiry p) s = .next s)

/-! ## Refill, selection, transmission -/

/-- A refill goes to the first link, upward from the refill pointer + 1 with 6 followed by 1, that meets the
four conditions: the head cell of the free list joins its reserve, which stays in ascending order, its pending
credit rises by 1, and the pointer becomes that link (R17, R21, R22). When no link meets them nothing happens. -/
def Obligations.RefillServesLinksInTurn : Prop :=
  (∀ (c : CellId) (l : List CellId), (insertCell c l).Perm (c :: l) ∧
    (l.Pairwise (· ≤ ·) → (insertCell c l).Pairwise (· ≤ ·))) ∧
  ∀ s : State,
    let eligible (p : LinkId) : Prop :=
      ((s.links.get p).state = .sync ∨ (s.links.get p).state = .run) ∧
      (s.pool.links.get p).reserve.length < s.pool.advance.get p ∧
      (s.pool.links.get p).reserve.length + s.pool.held.get p.port < s.pool.holdLimit.get p.port ∧
      s.pool.floor < s.pool.freeList.length
    let distance (p : LinkId) : Nat := (p.num + 5 - s.pool.refillPointer.num) % 6
    (∀ p c rest, eligible p → (∀ q, eligible q → distance p ≤ distance q) → s.pool.freeList = c :: rest →
      let q := s.pool.links.get p
      exec .refill s = .next { s with pool := { s.pool with
        freeList := rest
        links := s.pool.links.set p ⟨insertCell c q.reserve, q.outstanding, q.pendingCredit + 1⟩
        refillPointer := p } }) ∧
    ((∀ p, ¬ eligible p) → exec .refill s = .next s)

/-- The class of the next copy an output takes (R82): the EXPRESS head when there is one and the STANDARD queue
is empty, or Y is 0, or the yield run is below Y; otherwise the STANDARD head when there is one. The yield run
afterwards is that of the table of R83. -/
def Obligations.ClassRuleOfSelection : Prop :=
  ∀ o : Output,
    let rule1 : Prop := o.standard = [] ∨ o.yieldCount = 0 ∨ o.yieldRun < o.yieldCount
    (∀ e es, o.express = e :: es → rule1 → o.takeNext = some (e, .express, { o with
      express := es
      yieldRun := if o.standard = [] ∨ o.yieldCount = 0 then 0 else o.yieldRun + 1 })) ∧
    (∀ t ts, o.standard = t :: ts → (o.express = [] ∨ ¬ rule1) →
      o.takeNext = some (t, .standard, { o with standard := ts, yieldRun := 0 })) ∧
    (o.express = [] → o.standard = [] → o.takeNext = none)

/-- A link output that is OPEN with an empty departing slot and a copy queued selects: the copy of the class
rule leaves its queue for the departing slot at position 0 as a DEPARTING copy, and waits under the stall timer when
the transmit credit is 0 (R45, R81, R85, R86). Otherwise nothing happens. -/
def Obligations.SelectionStartsADeparture : Prop :=
  ∀ (s : State) (p : LinkId),
    let lo := s.linkOuts.get p
    (∀ d cls o x c, lo.queueState = .opened → (s.outs.get p.port).departing = none →
      (s.outs.get p.port).takeNext = some (d, cls, o) → s.desc d = some x → x.copies.get p.port = some c →
      let wait := decide ((s.links.get p).txCredit = 0)
      exec (.selection p) s = .next { s with
        outs := s.outs.set p.port { o with departing := some ⟨d, cls, 0, wait⟩ }
        descs := s.descs.set d.val
          (some { x with copies := x.copies.set p.port (some { c with state := .departing }) }) d.isLt
        linkOuts := s.linkOuts.set p
          { lo with stallTimer := if wait then timerOfCode lo.stallCode else .stopped } }) ∧
    (lo.queueState ≠ .opened ∨ (s.outs.get p.port).departing ≠ none ∨
        ((s.outs.get p.port).express = [] ∧ (s.outs.get p.port).standard = []) →
      exec (.selection p) s = .next s)

/-- One symbol time outside a departure. Silence in DISABLED and FAULTED; HELLO in LISTEN; in SYNC one HELLO,
one IDLE, then CREDIT or IDLE; in RUN an END_CUT owed first, and between frames CREDIT(n) with the whole pending
credit, which becomes outstanding, or IDLE (R18, R101 to R103, R108, R111). -/
def Obligations.TransmissionOutsideADeparture : Prop :=
  ∀ (s : State) (p : LinkId),
    let l := s.links.get p
    let q := s.pool.links.get p
    let sends (c : Option LinkChar) (k : LinkPort) : State :=
      { s with links := s.links.set p { k with line := c } }
    let filler : State := if q.pendingCredit = 0 then sends (some .idle) l else { s with
      pool := { s.pool with
        links := s.pool.links.set p ⟨q.reserve, q.outstanding + q.pendingCredit, 0⟩ }
      links := s.links.set p { l with line := some (.credit q.pendingCredit) } }
    (l.state = .disabled ∨ l.state = .faulted → exec (.transmitCharacter p) s = .next (sends none l)) ∧
    (l.state = .listen → exec (.transmitCharacter p) s = .next (sends (some .hello) l)) ∧
    (l.state = .sync →
      (l.syncStep = .hello →
        exec (.transmitCharacter p) s = .next (sends (some .hello) { l with syncStep := .idle })) ∧
      (l.syncStep = .idle →
        exec (.transmitCharacter p) s = .next (sends (some .idle) { l with syncStep := .stream })) ∧
      (l.syncStep = .stream → exec (.transmitCharacter p) s = .next filler)) ∧
    (l.state = .run →
      (l.endCutOwed = true →
        exec (.transmitCharacter p) s = .next (sends (some .endCut) { l with endCutOwed := false })) ∧
      (l.endCutOwed = false → (s.outs.get p.port).departing = none →
        exec (.transmitCharacter p) s = .next filler))

/-- One symbol time of a departure in RUN with no END_CUT owed (R9, R18, R85, R86, R111): at a group start
pending credit goes out first, then one credit is spent with the group's first DATA character, and without credit
IDLE is sent; elsewhere the next stored or check byte is sent. The position rises by 1, and the stall timer starts
when it comes to a group start with transmit credit 0. END_GOOD releases the copy as delivered. -/
def Obligations.TransmissionOfADeparture : Prop :=
  ∀ (s : State) (p : LinkId) (dep : Departure) (x : Descriptor) (h : Header),
    let l := s.links.get p
    let q := s.pool.links.get p
    let lo := s.linkOuts.get p
    let size := 4 + h.length.toNat
    let groupStart (k : Nat) : Prop := k % 64 = 0 ∧ k < size
    let moved (credit : Nat) : State :=
      let wait := decide (groupStart (dep.position + 1)) && decide (credit = 0)
      { s with
        links := s.links.set p { l with
          txCredit := credit, line := some (s.departureChar dep.desc dep.position) }
        outs := s.outs.set p.port { s.outs.get p.port with
          departing := some { dep with position := dep.position + 1, waiting := wait } }
        linkOuts := s.linkOuts.set p
          { lo with stallTimer := if wait then timerOfCode lo.stallCode else .stopped } }
    l.state = .run → l.endCutOwed = false → (s.outs.get p.port).departing = some dep →
    s.desc dep.desc = some x → x.header = some h →
    (groupStart dep.position → q.pendingCredit ≠ 0 → exec (.transmitCharacter p) s = .next { s with
      pool := { s.pool with links := s.pool.links.set p ⟨q.reserve, q.outstanding + q.pendingCredit, 0⟩ }
      links := s.links.set p { l with line := some (.credit q.pendingCredit) } }) ∧
    (groupStart dep.position → q.pendingCredit = 0 → l.txCredit = 0 →
      exec (.transmitCharacter p) s = .next { s with
        links := s.links.set p { l with line := some .idle } }) ∧
    (groupStart dep.position → q.pendingCredit = 0 → l.txCredit ≠ 0 →
      exec (.transmitCharacter p) s = .next (moved (l.txCredit - 1))) ∧
    (¬ groupStart dep.position → dep.position < size + 2 →
      exec (.transmitCharacter p) s = .next (moved l.txCredit)) ∧
    (size + 2 ≤ dep.position →
      ∃ t, t = ({ s with
          links := s.links.set p { l with line := some .endGood }
          outs := s.outs.set p.port { s.outs.get p.port with departing := none }
          linkOuts := s.linkOuts.set p { lo with stallTimer := .stopped } }).releaseCopy p.port dep.desc ∧
        exec (.transmitCharacter p) s = .next { t with
          counters := t.counters.set p.port { t.counters.get p.port with
            framesOut := satAdd (t.counters.get p.port).framesOut 1 } })

/-- The header layout (R179), read back from its bytes and written back from any four bytes. The characters of a
departure (R1, R5, R6, R85): the stored bytes in order, with HOPS one less in the
byte at position 1, then the check computed over the bytes sent, high byte first. The check of the nine bytes 31H to
39H is 29B1H. -/
def Obligations.HeaderLayoutSentBytesAndCheck : Prop :=
  (∀ (h : Header) (b0 b1 b2 b3 : Byte), headerBytes h = [b0, b1, b2, b3] → headerOfBytes b0 b1 b2 b3 = h) ∧
  (∀ b0 b1 b2 b3 : Byte, headerBytes (headerOfBytes b0 b1 b2 b3) = [b0, b1, b2, b3]) ∧
  headerBytes ⟨30, .standard, 4, 0, 130⟩ = [0x1E#8, 0x20#8, 0x00#8, 0x82#8] ∧
  checkOf [0x31#8, 0x32#8, 0x33#8, 0x34#8, 0x35#8, 0x36#8, 0x37#8, 0x38#8, 0x39#8] = 0x29B1#16 ∧
  ∀ (s : State) (d : DescId) (x : Descriptor) (h : Header), s.desc d = some x → x.header = some h →
    let size := 4 + h.length.toNat
    let check := checkOf ((List.range size).map (s.sentByte d))
    (∀ k, k ≠ 1 → s.sentByte d k = s.frameByte x.chain k) ∧
    (∀ spare : BitVec 3, ∀ c : BitVec 1, s.frameByte x.chain 1 = (c ++ h.hops ++ spare : BitVec 8) →
      s.sentByte d 1 = (c ++ (h.hops - 1) ++ spare : BitVec 8)) ∧
    (∀ k, k < size → s.departureChar d k = .data (s.sentByte d k)) ∧
    s.departureChar d size = .data (check.extractLsb' 8 8) ∧
    s.departureChar d (size + 1) = .data (check.extractLsb' 0 8) ∧
    s.departureChar d (size + 2) = .endGood

/-! ## RECV, SKIP, DATA reads -/

/-- RECV (R95, R147, R182): QUEUE_EMPTY with both queues empty; otherwise the copy of the class rule becomes
DEPARTING at port 0 and its header results are written; with LENGTH 1 or more the read phase begins and DATA_REQ is
latched; with LENGTH 0 the copy is delivered at once and RECV ends with OK. -/
def Obligations.RecvSelectsACopy : Prop :=
  ∀ s : State, HostReady s →
    (s.outs.p0.express = [] → s.outs.p0.standard = [] →
      exec .recv s = .next (s.afterCommand .queueEmpty ⟨0, 0, 0, 0⟩)) ∧
    ∀ d (cls : Sys2Proof.Class) o x h c, s.outs.p0.takeNext = some (d, cls, o) → s.desc d = some x → x.header = some h →
      x.copies.get .p0 = some c →
      let r : Words4 :=
        ⟨(0#4 ++ h.hops ++ 0#3 ++ BitVec.ofBool (decide (cls = .express)) ++ 0#1 ++
            BitVec.ofNat 3 x.source.num : BitVec 16),
          h.dest.setWidth 16, h.length, x.stamp⟩
      (1 ≤ h.length.toNat → exec .recv s = .next { s with
        outs := { s.outs with p0 := { o with departing := some ⟨d, cls, 0, false⟩ } }
        descs := s.descs.set d.val
          (some { x with copies := x.copies.set .p0 (some { c with state := .departing }) }) d.isLt
        win := { s.win with
          engine := .readPhase 0, error := .ok, overrun := false, taken := s.win.params, results := r,
          dataReq := true } }) ∧
      (h.length = 0 →
        ∃ t, t = ({ s with outs := { s.outs with p0 := { o with departing := none } } }).releaseCopy .p0 d ∧
          exec .recv s = .next ({ t with
            counters := { t.counters with
              p0 := { t.counters.p0 with framesOut := satAdd t.counters.p0.framesOut 1 } } }.afterCommand .ok r))

/-- A read of DATA (R130, R132, R133): in the read phase it returns payload bytes 2i and 2i+1 of word i, the
low half of an odd frame's last word 0, and raises the cursor; the read of the last word delivers the copy and ends
RECV with OK, its results unchanged. In every other engine state it returns 0 and changes nothing else. -/
def Obligations.DataReadGivesAWord : Prop :=
  ∀ s : State,
    (∀ cursor dep x h, s.win.resetApplied = false → s.win.engine = .readPhase cursor →
      s.outs.p0.departing = some dep → s.desc dep.desc = some x → x.header = some h →
      let word : Word := s.frameByte x.chain (4 + 2 * cursor) ++
        (if 2 * cursor + 1 < h.length.toNat then s.frameByte x.chain (4 + (2 * cursor + 1)) else 0#8)
      (cursor + 1 < (h.length.toNat + 1) / 2 → exec .dataRead s = .next { s with
        win := { s.win with dataBus := word, engine := .readPhase (cursor + 1) } }) ∧
      ((h.length.toNat + 1) / 2 ≤ cursor + 1 →
        ∃ t, t = ({ s with
            outs := { s.outs with p0 := { s.outs.p0 with departing := none } } }).releaseCopy .p0 dep.desc ∧
          exec .dataRead s = .next { t with
            counters := { t.counters with
              p0 := { t.counters.p0 with framesOut := satAdd t.counters.p0.framesOut 1 } }
            win := { s.win with dataBus := word, engine := .idle, error := .ok, cmdDone := true } })) ∧
    ((∀ cursor, s.win.engine ≠ .readPhase cursor) ∨ s.win.resetApplied = true →
      exec .dataRead s = .next { s with win := { s.win with dataBus := 0 } })

/-- SKIP (R97, R149, R182): QUEUE_EMPTY with both queues empty; otherwise the copy a RECV would take is
released as lost in the same event, and SKIP ends with OK and its header results. -/
def Obligations.SkipReleasesACopy : Prop :=
  ∀ s : State, HostReady s →
    (s.outs.p0.express = [] → s.outs.p0.standard = [] →
      exec .skip s = .next (s.afterCommand .queueEmpty ⟨0, 0, 0, 0⟩)) ∧
    ∀ d (cls : Sys2Proof.Class) o x h, s.outs.p0.takeNext = some (d, cls, o) → s.desc d = some x →
      x.header = some h →
      let r : Words4 :=
        ⟨(0#4 ++ h.hops ++ 0#3 ++ BitVec.ofBool (decide (cls = .express)) ++ 0#1 ++
            BitVec.ofNat 3 x.source.num : BitVec 16),
          h.dest.setWidth 16, h.length, x.stamp⟩
      ∃ t, t = ({ s with outs := { s.outs with p0 := o } }).releaseCopy .p0 d ∧
        exec .skip s = .next ({ t with
          counters := { t.counters with
            p0 := { t.counters.p0 with copiesLost := satAdd t.counters.p0.copiesLost 1 } } }.afterCommand .ok r)

/-! ## Table, link and port commands -/

/-- TABLE_WRITE (R55, R151): the tests in their order, each ending with its code and nothing changed; when all
pass the entry takes its new contents, with an empty port set and KEEP for kind INVALID, and its rotation pointer
becomes 6. All results read 0. -/
def Obligations.TableWriteTestsAndEffect : Prop :=
  ∀ s : State, HostReady s →
    let w := s.win.params
    let ends (c : Code) : Prop := exec .tableWrite s = .next (s.afterCommand c ⟨0, 0, 0, 0⟩)
    let writes (n : EntryId) (e : Entry) : Prop := exec .tableWrite s = .next ({ s with
      table := s.table.set n.val e n.isLt
      rotation := s.rotation.set n.val .p6 n.isLt }.afterCommand .ok ⟨0, 0, 0, 0⟩)
    let count := ((List.range 7).filter fun i => w.w2.getLsbD i).length
    (256 ≤ w.w0.toNat → ends .badParam) ∧
    (240 ≤ w.w0.toNat → w.w0.toNat ≤ 247 → ends .anchored) ∧
    ∀ n : EntryId, w.w0.toNat = n.val → n.val < 240 ∨ 247 < n.val →
      (4 ≤ w.w1.toNat → ends .badParam) ∧
      (w.w1 = 0 → writes n ⟨.invalid, 0, .keep⟩) ∧
      (1 ≤ w.w1.toNat → w.w1.toNat ≤ 3 →
        (128 ≤ w.w2.toNat ∨ 3 ≤ w.w3.toNat ∨ count = 0 ∨ (w.w1 = 1 ∧ count ≠ 1) → ends .badParam) ∧
        (w.w2.toNat < 128 → w.w3.toNat ≤ 2 → 1 ≤ count → (w.w1 = 1 → count = 1) →
          writes n
            { kind := if w.w1 = 1 then .single else if w.w1 = 2 then .spread else .fanout
              ports := w.w2.setWidth 7
              rule := if w.w3 = 0 then .keep else if w.w3 = 1 then .forceExpress else .forceStandard }))

/-- The commands that read state and change nothing (R56, R135, R155, R157, R158, R182): TABLE_READ, READ_PORT,
READ_POOL and READ_COUNTER, with BAD_PARAM for an operand that names nothing, and the values of the entry kinds, the
class rules, the queue states and the link states (section 11.4). -/
def Obligations.ReadingCommands : Prop :=
  ([EntryKind.invalid, .single, .spread, .fanout].map kindValue = [0, 1, 2, 3]) ∧
  ([ClassRule.keep, .forceExpress, .forceStandard].map ruleValue = [0, 1, 2]) ∧
  ([QueueState.closed, .opened, .held].map queueStateValue = [0, 1, 2]) ∧
  ([LinkState.disabled, .listen, .sync, .run, .faulted].map linkStateValue = [0, 1, 2, 3, 4]) ∧
  ∀ s : State, HostReady s →
    let w := s.win.params
    let word (n : Nat) : Word := BitVec.ofNat 16 n
    (exec .readPool s = .next (s.afterCommand .ok
      ⟨word s.pool.freeList.length, word s.pool.floor,
        word ((List.finRange 192).countP fun d => (s.desc d).isNone), s.stamp⟩)) ∧
    ((256 ≤ w.w0.toNat → exec .tableRead s = .next (s.afterCommand .badParam ⟨0, 0, 0, 0⟩)) ∧
      ∀ n : EntryId, w.w0.toNat = n.val → exec .tableRead s = .next (s.afterCommand .ok
        ⟨word (kindValue s.table[n].kind), s.table[n].ports.setWidth 16, word (ruleValue s.table[n].rule),
          word s.rotation[n].num⟩)) ∧
    ((7 ≤ w.w0.toNat → exec .readPort s = .next (s.afterCommand .badParam ⟨0, 0, 0, 0⟩)) ∧
      (w.w0 = 0 → exec .readPort s = .next (s.afterCommand .ok
        ⟨1, word (s.outs.p0.express.length + 256 * s.outs.p0.standard.length), word s.pool.held.p0, 0⟩)) ∧
      ∀ p : LinkId, w.w0.toNat = p.num → exec .readPort s = .next (s.afterCommand .ok
        ⟨word (queueStateValue (s.linkOuts.get p).queueState
            + 8 * (if (s.outs.get p.port).departing = none then 0 else 1)
            + 16 * linkStateValue (s.links.get p).state + 256 * (s.links.get p).txCredit),
          word ((s.outs.get p.port).express.length + 256 * (s.outs.get p.port).standard.length),
          word (s.pool.held.get p.port),
          word ((s.pool.links.get p).reserve.length + 256 * (s.pool.links.get p).outstanding)⟩)) ∧
    ((7 ≤ w.w0.toNat ∨ 5 ≤ w.w1.toNat ∨ (w.w0 = 0 ∧ w.w1 = 4) →
        exec .readCounter s = .next (s.afterCommand .badParam ⟨0, 0, 0, 0⟩)) ∧
      ∀ (p : Port) (v : Count32), w.w0.toNat = p.num →
        (w.w1 = 0 ∧ v = (s.counters.get p).framesIn) ∨ (w.w1 = 1 ∧ v = (s.counters.get p).discardsIn) ∨
        (w.w1 = 2 ∧ v = (s.counters.get p).framesOut) ∨ (w.w1 = 3 ∧ v = (s.counters.get p).copiesLost) ∨
        (w.w1 = 4 ∧ ∃ l, p.link? = some l ∧ v = s.linkFaults.get l) →
        exec .readCounter s = .next (s.afterCommand .ok
          ⟨v.extractLsb' 16 16, v.extractLsb' 0 16, 0, 0⟩))

/-- LINK_CONTROL with the actions ENABLE and RESTART, and every LINK_CONTROL refused by its first two checks (R117,
R118, R152). ENABLE moves a DISABLED link, and one whose recovery is over, to LISTEN, makes the restart request pending
during recovery, and changes nothing elsewhere. RESTART of a DISABLED link ends with BAD_STATE, in LISTEN it changes
nothing, from SYNC and RUN it is the fault RESTART_REQ, with the cut copy and the lost frame in the results, and in
FAULTED it acts as ENABLE. The three rows are one bus write: the action is the one PARAM1 names
(notes/assumptions/7.md). -/
def Obligations.EnableAndRestart : Prop :=
  ∀ (c : Instr) (s : State), c ∈ [Instr.enable, .disable, .restart] → HostReady s →
    let w := s.win.params
    (w.w0 = 0 ∨ 7 ≤ w.w0.toNat ∨ w.w1 = 0 ∨ 4 ≤ w.w1.toNat →
      exec c s = .next (s.afterCommand .badParam ⟨0, 0, 0, 0⟩)) ∧
    ∀ p : LinkId, w.w0.toNat = p.num →
      let l := s.links.get p
      let listen : State := { s with links := s.links.set p { l with
        state := .listen, rate := (s.linkOuts.get p).speed, txCredit := 0, restartRequest := false,
        rx := none, silenceTimer := .stopped, syncTimer := .stopped, recoveryTimer := .stopped } }
      let requested : State := { s with links := s.links.set p { l with restartRequest := true } }
      let lost : Prop := ∃ f, l.rx = some f ∧ f.disposition ≠ .sinkingSurplus
      (w.w1 = 1 ∨ w.w1 = 3 →
        (l.state = .faulted → l.recoveryTimer ≠ .stopped →
          exec c s = .next (requested.afterCommand .ok ⟨4, 0, 0, 0⟩)) ∧
        (l.state = .faulted → l.recoveryTimer = .stopped →
          exec c s = .next (listen.afterCommand .ok ⟨1, 0, 0, 0⟩)) ∧
        (l.state = .listen → exec c s = .next (s.afterCommand .ok ⟨1, 0, 0, 0⟩))) ∧
      (w.w1 = 1 →
        (l.state = .disabled → exec c s = .next (listen.afterCommand .ok ⟨1, 0, 0, 0⟩)) ∧
        (l.state = .sync → exec c s = .next (s.afterCommand .ok ⟨2, 0, 0, 0⟩)) ∧
        (l.state = .run → exec c s = .next (s.afterCommand .ok ⟨3, 0, 0, 0⟩))) ∧
      (w.w1 = 3 →
        (l.state = .disabled → exec c s = .next (s.afterCommand .badState ⟨0, 0, 0, 0⟩)) ∧
        (l.state = .sync ∨ l.state = .run → ∃ released flag : Word,
          exec c s = .next ((s.fault p .restartReq).afterCommand .ok ⟨4, released, flag, 0⟩) ∧
          (l.state = .run ∧ (s.outs.get p.port).departing ≠ none → released = 1) ∧
          (l.state = .sync ∨ (s.outs.get p.port).departing = none → released = 0) ∧
          (lost → flag = 1) ∧ (¬ lost → flag = 0)))

/-- LINK_CONTROL with the action DISABLE (R28, R93, R102, R119, R152). A DISABLED link changes nothing, and DISABLE
succeeds. From every other state the link goes to DISABLED with its frame lost, its reserve returned and its timers
stopped; one END_CUT goes out when the link was in RUN and the cut copy had started, or one was owed; the output's copies
are released, EXPRESS first after the departing one, counted and returned in the result, and the output is CLOSED. That
END_CUT stands on the pair after the event, and that the three rows are one bus write, are the model's reading
(notes/assumptions/7.md, 9.md and 14.md). -/
def Obligations.DisableClosesALink : Prop :=
  ∀ (c : Instr) (s : State) (p : LinkId), c ∈ [Instr.enable, .disable, .restart] → HostReady s →
    s.win.params.w0.toNat = p.num → s.win.params.w1 = 2 →
    let l := s.links.get p
    let o := s.outs.get p.port
    let lost : Prop := ∃ f, l.rx = some f ∧ f.disposition ≠ .sinkingSurplus
    let n := o.express.length + o.standard.length + if o.departing = none then 0 else 1
    let endCut : Prop := l.state = .run ∧
      (l.endCutOwed = true ∨ ∃ dep, o.departing = some dep ∧ 0 < dep.position)
    let receiver : State := match l.rx with
      | none => s
      | some f => match f.disposition with
        | .storing d => s.freeDesc d
        | .sinkingNoDescriptor | .sinkingSurplus => s
    (l.state = .disabled → exec c s = .next (s.afterCommand .ok ⟨0, 0, 0, 0⟩)) ∧
    (l.state ≠ .disabled → ∃ (line : Option LinkChar) (flag : Word),
      (endCut → line = some .endCut) ∧ (¬ endCut → line = none) ∧ (lost → flag = 1) ∧ (¬ lost → flag = 0) ∧
      let port : State := { receiver with
        pool := { receiver.pool with
          freeList := receiver.pool.freeList ++ (s.pool.links.get p).reserve
          links := s.pool.links.set p ⟨[], 0, 0⟩ }
        links := s.links.set p { l with
          state := .disabled, restartRequest := false, txCredit := 0, rx := none, silenceTimer := .stopped,
          syncTimer := .stopped, recoveryTimer := .stopped, endCutOwed := false, line := line }
        win := { s.win with linkChange := s.win.linkChange || decide (l.state = .run) } }
      let cut : State := match o.departing with
        | none => port
        | some dep => ({ port with
            outs := s.outs.set p.port { o with departing := none }
            linkOuts := s.linkOuts.set p { s.linkOuts.get p with stallTimer := .stopped } }).releaseCopy
              p.port dep.desc
      let u := cut.purge p.port
      exec c s = .next ({ u with
        counters := u.counters.set p.port { u.counters.get p.port with
          copiesLost := satAdd (u.counters.get p.port).copiesLost n }
        linkOuts := u.linkOuts.set p
          { u.linkOuts.get p with queueState := .closed, holdTimer := .stopped } }.afterCommand .ok
        ⟨0, BitVec.ofNat 16 n, flag, 0⟩))

/-- PORT_CONFIG (R79, R153, R181): the checks in their order; then every setting of the port in one event, the
yield run 0, running timers as they are; at port 0 the yield count alone. -/
def Obligations.PortConfigSetsThePort : Prop :=
  ∀ s : State, HostReady s →
    let w := s.win.params
    let ends : Prop := exec .portConfig s = .next (s.afterCommand .badParam ⟨0, 0, 0, 0⟩)
    let speed := (w.w3.extractLsb' 4 3).toNat
    (7 ≤ w.w0.toNat ∨ 16 ≤ w.w1.toNat → ends) ∧
    (w.w0 = 0 → w.w1.toNat ≤ 15 →
      (w.w2 ≠ 0 ∨ w.w3.getLsbD 0 = true ∨ w.w3.getLsbD 1 = true ∨ speed ≠ 0 → ends) ∧
      (w.w2 = 0 → w.w3.getLsbD 0 = false → w.w3.getLsbD 1 = false → speed = 0 →
        exec .portConfig s = .next ({ s with
          outs := { s.outs with p0 := { s.outs.p0 with yieldCount := w.w1.toNat, yieldRun := 0 } } }.afterCommand
          .ok ⟨0, 0, 0, 0⟩))) ∧
    ∀ p : LinkId, w.w0.toNat = p.num → w.w1.toNat ≤ 15 →
      (4 ≤ speed → ends) ∧
      (speed ≤ 3 → exec .portConfig s = .next ({ s with
        outs := s.outs.set p.port { s.outs.get p.port with yieldCount := w.w1.toNat, yieldRun := 0 }
        linkOuts := s.linkOuts.set p { s.linkOuts.get p with
          stallCode := w.w2.extractLsb' 0 8
          holdCode := w.w2.extractLsb' 8 8
          reflect := w.w3.getLsbD 0
          autoRestart := w.w3.getLsbD 1
          speed := if speed = 0 then .mbit100 else if speed = 1 then .mbit50 else if speed = 2 then .mbit25
            else .mbit10 } }.afterCommand .ok ⟨0, 0, 0, 0⟩))

/-- PORT_FLUSH (R94, R154): at a link output the departing copy is cut, END_CUT owed when a DATA character of
it had gone, and the queues are purged; at port 0 the queues alone. The number released is counted in COPIES_LOST
and returned; queue state, hold timer, yield run and settings stay. -/
def Obligations.PortFlushReleasesTheCopies : Prop :=
  ∀ s : State, HostReady s →
    (7 ≤ s.win.params.w0.toNat → exec .portFlush s = .next (s.afterCommand .badParam ⟨0, 0, 0, 0⟩)) ∧
    ∀ p : Port, s.win.params.w0.toNat = p.num →
      let o := s.outs.get p
      let queued := o.express.length + o.standard.length
      let done (u : State) (n : Nat) : Prop := exec .portFlush s = .next ({ u with
        counters := u.counters.set p { u.counters.get p with
          copiesLost := satAdd (u.counters.get p).copiesLost n } }.afterCommand .ok ⟨BitVec.ofNat 16 n, 0, 0, 0⟩)
      (p.link? = none ∨ o.departing = none → done (s.purge p) queued) ∧
      ∀ l dep, p.link? = some l → o.departing = some dep →
        let cut := ({ s with
          outs := s.outs.set p { o with departing := none }
          linkOuts := s.linkOuts.set l { s.linkOuts.get l with stallTimer := .stopped }
          links := s.links.set l { s.links.get l with
            endCutOwed := (s.links.get l).endCutOwed || decide (0 < dep.position) } }).releaseCopy p dep.desc
        done (cut.purge p) (queued + 1)

/-! ## Pool, counter and record commands -/

/-- SET_POOL (R20, R156): LINKS_ACTIVE unless every link is DISABLED; then the checks of the selector, the port
and the value; then the one setting takes the value, which is returned. -/
def Obligations.SetPoolChangesOneSetting : Prop :=
  ∀ s : State, HostReady s →
    let w := s.win.params
    let v := w.w2.toNat
    let bad : Prop := exec .setPool s = .next (s.afterCommand .badParam ⟨0, 0, 0, 0⟩)
    let sets (q : Pool) : Prop := exec .setPool s = .next ({ s with pool := q }.afterCommand .ok ⟨w.w2, 0, 0, 0⟩)
    ((∃ p, (s.links.get p).state ≠ .disabled) →
      exec .setPool s = .next (s.afterCommand .linksActive ⟨0, 0, 0, 0⟩)) ∧
    ((∀ p, (s.links.get p).state = .disabled) →
      (3 ≤ w.w0.toNat → bad) ∧
      (w.w0 = 0 → (256 < v → bad) ∧ (v ≤ 256 → sets { s.pool with floor := v })) ∧
      (w.w0 = 1 → (w.w1 = 0 ∨ 7 ≤ w.w1.toNat ∨ v = 0 ∨ 16 < v → bad) ∧
        ∀ p : LinkId, w.w1.toNat = p.num → 1 ≤ v → v ≤ 16 →
          sets { s.pool with advance := s.pool.advance.set p v }) ∧
      (w.w0 = 2 → (7 ≤ w.w1.toNat ∨ v < 16 ∨ 512 < v → bad) ∧
        ∀ p : Port, w.w1.toNat = p.num → 16 ≤ v → v ≤ 512 →
          (v < s.pool.held.get p → bad) ∧
          (s.pool.held.get p ≤ v → sets { s.pool with holdLimit := s.pool.holdLimit.set p v })))

/-- CLEAR_COUNTERS sets the four counters of every port and LINK_FAULTS of every link to 0 and ends with OK and
zero results; the record list, its sequence counter and its overflow count stay. CLEAR_SWITCH and its end leave every
counter as it was (R159). -/
def Obligations.ClearCountersClearsAll : Prop :=
  ∀ s : State,
    (HostReady s → exec .clearCounters s = .next ({ s with
      counters := PerPort.const ⟨0, 0, 0, 0⟩, linkFaults := PerLink.const 0 }.afterCommand .ok ⟨0, 0, 0, 0⟩)) ∧
    (∀ c t, c = Instr.clearSwitch ∨ c = .clearSwitchEnd → exec c s = .next t →
      t.counters = s.counters ∧ t.linkFaults = s.linkFaults)

/-- TAKE_RECORD (R160, R182): NO_RECORD with the overflow count; otherwise the oldest record leaves the list
and its fields are returned with the overflow count. The fields of the record word, the codes of the fault kinds
(section 11.4), and the record words of the two examples of R182. -/
def Obligations.TakeRecordReturnsTheOldest : Prop :=
  (∀ s : State, HostReady s →
    (s.records.list = [] → exec .takeRecord s = .next (s.afterCommand .noRecord
      ⟨0, 0, BitVec.ofNat 16 (256 * s.records.overflow), 0⟩)) ∧
    ∀ r rest, s.records.list = r :: rest →
      let dest : Nat := (r.frame.map fun f => f.1.toNat).getD 0
      let last : Nat := (r.frame.map fun f => f.2.toNat).getD (r.count.getD 0)
      exec .takeRecord s = .next ({ s with records := { s.records with list := rest } }.afterCommand .ok
        ⟨r.seq, BitVec.ofNat 16 (recordWord r), BitVec.ofNat 16 (dest + 256 * s.records.overflow),
          BitVec.ofNat 16 last⟩)) ∧
  (∀ r : Record,
    let field (k width : Nat) : Nat := recordWord r / 2 ^ k % 2 ^ width
    let port (p : Option Port) : Nat := (p.map Port.num).getD 7
    (codeValue r.cause ≤ 12 → field 0 4 = codeValue r.cause ∧ field 4 3 = port r.inPort ∧
      field 7 3 = port r.outPort ∧ field 10 1 = (if r.frame = none then 0 else 1)) ∧
    (codeValue r.cause ≤ 12 → r.fault = none → field 11 5 = 0) ∧
    ∀ kind lostIn cutOut, codeValue r.cause ≤ 12 → r.fault = some ⟨kind, lostIn, cutOut⟩ →
      field 11 3 = faultKindValue kind ∧ field 14 1 = (if lostIn = true then 1 else 0) ∧
      field 15 1 = (if cutOut = true then 1 else 0)) ∧
  [FaultKind.codeError, .silence, .syncTimeout, .protocol, .creditOverrun, .rxOverrun, .oversize,
      .restartSeen].map faultKindValue = [0, 1, 2, 3, 4, 5, 6, 7] ∧
  recordWord ⟨207, .linkFault, some .p4, some .p4, some (18, 300), none, some ⟨.codeError, true, true⟩⟩ = 0xC64C ∧
  recordWord ⟨211, .stalled, some .p0, some .p5, some (241, 64), none, none⟩ = 0x068A

/-- CLEAR_SWITCH (R33, R161, R162): LINKS_ACTIVE unless every link is DISABLED; otherwise port 0's queues, every
descriptor, the free list, the held counts, the refill pointer, the yield runs and the rotation pointers are cleared
in the taking event and everything else is kept, with the engine EXECUTING; at the end of its 25 µs it ends with OK
and the number of frames cleared. By the model's choice the bytes of the cells are among what is kept
(notes/assumptions/2.md), and with no CLEAR_SWITCH in progress its end changes nothing (notes/assumptions/5.md). -/
def Obligations.ClearSwitchAndItsEnd : Prop :=
  ∀ s : State,
    (HostReady s → (∃ p, (s.links.get p).state ≠ .disabled) →
      exec .clearSwitch s = .next (s.afterCommand .linksActive ⟨0, 0, 0, 0⟩)) ∧
    (HostReady s → (∀ p, (s.links.get p).state = .disabled) → ∃ t, exec .clearSwitch s = .next t ∧
      t = { s with
        pool := { s.pool with
          freeList := List.finRange 1024, held := PerPort.const 0, refillPointer := .l6 }
        descs := t.descs
        rotation := t.rotation
        outs := t.outs
        win := { s.win with
          engine := .executingClear ((List.finRange 192).countP fun d => (s.desc d).isSome)
          error := .ok, overrun := false, taken := s.win.params } } ∧
      (∀ d, t.desc d = none) ∧ (∀ n : EntryId, t.rotation[n] = .p6) ∧
      t.outs.p0 = { s.outs.p0 with express := [], standard := [], yieldRun := 0 } ∧
      ∀ p : LinkId, t.outs.get p.port = { s.outs.get p.port with yieldRun := 0 }) ∧
    (∀ n, s.win.engine = .executingClear n → exec .clearSwitchEnd s = .next { s with win := { s.win with
      engine := .idle, error := .ok, results := ⟨BitVec.ofNat 16 n, 0, 0, 0⟩, cmdDone := true } }) ∧
    ((∀ n, s.win.engine ≠ .executingClear n) → exec .clearSwitchEnd s = .next s)

/-! ## Layouts -/

/-- The link symbols (R178): every legal character's symbol holds an odd number of ones and is read back as that
character, and every symbol that is read as a character is that character's symbol. The flag and the codes are those of
R178. The command a legal character's symbol spells is that character's row, and every other symbol spells
CODE_ERROR_RECEIVED. The ten bits stand on the pair in rising order, bit 0 first; a receiver that takes them in that order
has the symbol back; and a silent pair carries none. -/
def Obligations.SymbolsRoundTrip : Prop :=
  (∀ c : LinkChar, (∀ n, c = .credit n → 1 ≤ n ∧ n ≤ 16) →
    decodeSymbol c.symbol = some c ∧ onesCount c.symbol % 2 = 1) ∧
  (∀ (v : BitVec 10) (c : LinkChar), decodeSymbol v = some c →
    c.symbol = v ∧ ∀ n, c = .credit n → 1 ≤ n ∧ n ≤ 16) ∧
  (∀ (p : LinkId) (v : BitVec 10), (commandOfSymbol p v).wellFormed = true) ∧
  (∀ p : LinkId,
    (∀ b, commandOfSymbol p (LinkChar.symbol (.data b)) = .dataReceived p b) ∧
    commandOfSymbol p (LinkChar.symbol .endGood) = .endGoodReceived p ∧
    commandOfSymbol p (LinkChar.symbol .endCut) = .endCutReceived p ∧
    (∀ n, 1 ≤ n → n ≤ 16 → commandOfSymbol p (LinkChar.symbol (.credit n)) = .creditReceived p n) ∧
    commandOfSymbol p (LinkChar.symbol .idle) = .idleReceived p ∧
    commandOfSymbol p (LinkChar.symbol .hello) = .helloReceived p ∧
    (∀ v, decodeSymbol v = none → commandOfSymbol p v = .codeErrorReceived p) ∧
    ∀ v, (∀ c : LinkChar, (∀ n, c = .credit n → 1 ≤ n ∧ n ≤ 16) → c.symbol ≠ v) →
      commandOfSymbol p v = .codeErrorReceived p) ∧
  (∀ (p : LinkId) (v : BitVec 10),
    (serialBits v).length = 10 ∧ (∀ i, i < 10 → (serialBits v)[i]? = some (v.getLsbD i)) ∧
    symbolOfBits (serialBits v) = v ∧ commandOfBits p (serialBits v) = commandOfSymbol p v) ∧
  (∀ (s : State) (p : LinkId),
    (∀ c, (s.links.get p).line = some c → s.pairBits p = serialBits c.symbol) ∧
    ((s.links.get p).line = none → s.pairBits p = [])) ∧
  (let value (c : LinkChar) : Nat := c.symbol.toNat % 256
   (∀ b, value (.data b) = b.toNat ∧ (LinkChar.symbol (.data b)).getLsbD 8 = false) ∧
     (∀ c : LinkChar, (∀ b, c ≠ .data b) → c.symbol.getLsbD 8 = true) ∧
     (value .endGood = 0x3C ∧ value .endCut = 0xC3 ∧ value .idle = 0x5A ∧ value .hello = 0xA5) ∧
     ∀ n, 1 ≤ n → n ≤ 16 → value (.credit n) = 0x7F + n) ∧
  (LinkChar.symbol (.data 0x00#8) = 0x200#10 ∧ LinkChar.symbol (.credit 4) = 0x383#10)

/-! ## Invariants of every step -/

/-- The state right after a hard reset meets every invariant that the statements below keep. -/
def Obligations.ResetMeetsTheInvariants : Prop :=
  Memory.wf State.reset.cells ∧ RecordLaws State.reset ∧ TableLaws State.reset ∧ CreditLaws State.reset ∧
    OutputLaws State.reset ∧ TimerLaws State.reset ∧ CellsInPlace State.reset ∧ CopyLaws State.reset

/-- Every step keeps the frame memory in canonical form, the bounds of Law 10 and R168, and Law 12 with the
rotation pointers of R53 and the port sets of R52. -/
def Obligations.StepKeepsMemoryRecordsAndTable : Prop :=
  (∀ s t : State, Memory.wf s.cells → step s = .next t → Memory.wf t.cells) ∧
  (∀ s t : State, RecordLaws s → step s = .next t → RecordLaws t) ∧
  ∀ s t : State, TableLaws s → step s = .next t → TableLaws t

/-- Every step keeps Laws 3 and 4 with R17: credit counts that describe the reserve, the reserve within the
advance and in ascending order, reserve and held count within the hold limit, and a transmit credit of at most 64. -/
def Obligations.StepKeepsCreditLaws : Prop :=
  ∀ s t : State, CreditLaws s → step s = .next t → CreditLaws t

/-- Every step keeps Laws 5 and 7, the yield run within 0 to Y, the queue state that belongs to each link state, and
the timers running only in their states (R75, R77, R83, R99). -/
def Obligations.StepKeepsOutputAndTimerLaws : Prop :=
  (∀ s t : State, OutputLaws s → step s = .next t → OutputLaws t) ∧
  ∀ s t : State, TimerLaws s → step s = .next t → TimerLaws t

/-- Every step keeps Laws 1 and 2: each of the 1024 cells is in exactly one place, and each held count counts the
cells of its source's chains (R15, R19). -/
def Obligations.StepKeepsCellsInPlace : Prop :=
  ∀ s t : State, CellsInPlace s → step s = .next t → CellsInPlace t

/-- Every step keeps Laws 6, 8 and 11, in states that meet CellsInPlace and OutputLaws, which every step keeps: the
copy sets agree with the queues and slots, a STORED descriptor owes a copy, each input has one frame in assembly, and
no frame with stored HOPS 0 has a copy at a link (R35, R44, R61, R109). -/
def Obligations.StepKeepsCopyLaws : Prop :=
  ∀ s t : State, CopyLaws s → CellsInPlace s → OutputLaws s → step s = .next t → CopyLaws t

end Statements
end

