-- ==== Sys2Proof/Laws/Word.lean ====
section
/-! SUPPORT. The small lemmas of the two tables indexed by port and by link. -/

namespace Sys2Proof

@[simp] theorem PerPort.get_const {α : Type} (a : α) (p : Port) : (PerPort.const a).get p = a := by
  cases p <;> rfl

@[simp] theorem PerLink.get_const {α : Type} (a : α) (p : LinkId) : (PerLink.const a).get p = a := by
  cases p <;> rfl

@[simp] theorem PerPort.get_set_self {α : Type} (v : PerPort α) (p : Port) (a : α) :
    (v.set p a).get p = a := by
  cases p <;> rfl

@[simp] theorem PerLink.get_set_self {α : Type} (v : PerLink α) (p : LinkId) (a : α) :
    (v.set p a).get p = a := by
  cases p <;> rfl

theorem PerPort.get_set_ne {α : Type} (v : PerPort α) {p q : Port} (a : α) (h : q ≠ p) :
    (v.set p a).get q = v.get q := by
  cases p <;> cases q <;> first | rfl | exact absurd rfl h

theorem PerLink.get_set_ne {α : Type} (v : PerLink α) {p q : LinkId} (a : α) (h : q ≠ p) :
    (v.set p a).get q = v.get q := by
  cases p <;> cases q <;> first | rfl | exact absurd rfl h

theorem PerPort.get_set {α : Type} (v : PerPort α) (p q : Port) (a : α) :
    (v.set p a).get q = if q = p then a else v.get q := by
  by_cases h : q = p
  · simp [h]
  · simp [h, PerPort.get_set_ne v a h]

theorem PerLink.get_set {α : Type} (v : PerLink α) (p q : LinkId) (a : α) :
    (v.set p a).get q = if q = p then a else v.get q := by
  by_cases h : q = p
  · simp [h]
  · simp [h, PerLink.get_set_ne v a h]

@[simp] theorem PerPort.set_get {α : Type} (v : PerPort α) (p : Port) : v.set p (v.get p) = v := by
  cases p <;> rfl

@[simp] theorem PerLink.set_get {α : Type} (v : PerLink α) (p : LinkId) : v.set p (v.get p) = v := by
  cases p <;> rfl

@[simp] theorem PerPort.set_set {α : Type} (v : PerPort α) (p : Port) (a b : α) :
    (v.set p a).set p b = v.set p b := by
  cases p <;> rfl

@[simp] theorem PerLink.set_set {α : Type} (v : PerLink α) (p : LinkId) (a b : α) :
    (v.set p a).set p b = v.set p b := by
  cases p <;> rfl

theorem PerPort.ext_get {α : Type} {v w : PerPort α} (h : ∀ p, v.get p = w.get p) : v = w := by
  cases v; cases w
  have h0 := h .p0; have h1 := h .p1; have h2 := h .p2; have h3 := h .p3
  have h4 := h .p4; have h5 := h .p5; have h6 := h .p6
  simp only [PerPort.get] at h0 h1 h2 h3 h4 h5 h6
  simp [h0, h1, h2, h3, h4, h5, h6]

theorem PerLink.ext_get {α : Type} {v w : PerLink α} (h : ∀ p, v.get p = w.get p) : v = w := by
  cases v; cases w
  have h1 := h .l1; have h2 := h .l2; have h3 := h .l3
  have h4 := h .l4; have h5 := h .l5; have h6 := h .l6
  simp only [PerLink.get] at h1 h2 h3 h4 h5 h6
  simp [h1, h2, h3, h4, h5, h6]

@[simp] theorem LinkId.port_inj {p q : LinkId} : p.port = q.port ↔ p = q := by
  cases p <;> cases q <;> simp [LinkId.port]

@[simp] theorem LinkId.port_ne_p0 (p : LinkId) : p.port ≠ .p0 := by
  cases p <;> simp [LinkId.port]

@[simp] theorem LinkId.link_port (p : LinkId) : p.port.link? = some p := by
  cases p <;> rfl

theorem Port.link_eq_some {p : Port} {l : LinkId} : p.link? = some l ↔ p = l.port := by
  cases p <;> cases l <;> simp [Port.link?, LinkId.port]

theorem Port.mem_all (p : Port) : p ∈ Port.all := by cases p <;> decide

theorem LinkId.mem_all (p : LinkId) : p ∈ LinkId.all := by cases p <;> decide

@[simp] theorem Port.ofNum_num (p : Port) : Port.ofNum? p.num = some p := by cases p <;> rfl

end Sys2Proof
end

