-- ==== Sys2Proof/Laws/State.lean ====
section
/-! SUPPORT. One lemma per field of the state for each of the small updates the meanings are made of. -/

namespace Sys2Proof.Machine

/-! ## setLink -/

@[simp] theorem State.setLink_pool (s : State) (p : LinkId) (l : LinkPort) :
    (s.setLink p l).pool = s.pool := rfl
@[simp] theorem State.setLink_cells (s : State) (p : LinkId) (l : LinkPort) :
    (s.setLink p l).cells = s.cells := rfl
@[simp] theorem State.setLink_descs (s : State) (p : LinkId) (l : LinkPort) :
    (s.setLink p l).descs = s.descs := rfl
@[simp] theorem State.setLink_stamp (s : State) (p : LinkId) (l : LinkPort) :
    (s.setLink p l).stamp = s.stamp := rfl
@[simp] theorem State.setLink_table (s : State) (p : LinkId) (l : LinkPort) :
    (s.setLink p l).table = s.table := rfl
@[simp] theorem State.setLink_rotation (s : State) (p : LinkId) (l : LinkPort) :
    (s.setLink p l).rotation = s.rotation := rfl
@[simp] theorem State.setLink_outs (s : State) (p : LinkId) (l : LinkPort) :
    (s.setLink p l).outs = s.outs := rfl
@[simp] theorem State.setLink_linkOuts (s : State) (p : LinkId) (l : LinkPort) :
    (s.setLink p l).linkOuts = s.linkOuts := rfl
@[simp] theorem State.setLink_links (s : State) (p : LinkId) (l : LinkPort) :
    (s.setLink p l).links = s.links.set p l := rfl
@[simp] theorem State.setLink_records (s : State) (p : LinkId) (l : LinkPort) :
    (s.setLink p l).records = s.records := rfl
@[simp] theorem State.setLink_counters (s : State) (p : LinkId) (l : LinkPort) :
    (s.setLink p l).counters = s.counters := rfl
@[simp] theorem State.setLink_linkFaults (s : State) (p : LinkId) (l : LinkPort) :
    (s.setLink p l).linkFaults = s.linkFaults := rfl
@[simp] theorem State.setLink_win (s : State) (p : LinkId) (l : LinkPort) :
    (s.setLink p l).win = s.win := rfl
@[simp] theorem State.setLink_pending (s : State) (p : LinkId) (l : LinkPort) :
    (s.setLink p l).pending = s.pending := rfl

/-! ## setOut -/

@[simp] theorem State.setOut_pool (s : State) (p : Port) (o : Output) :
    (s.setOut p o).pool = s.pool := rfl
@[simp] theorem State.setOut_cells (s : State) (p : Port) (o : Output) :
    (s.setOut p o).cells = s.cells := rfl
@[simp] theorem State.setOut_descs (s : State) (p : Port) (o : Output) :
    (s.setOut p o).descs = s.descs := rfl
@[simp] theorem State.setOut_stamp (s : State) (p : Port) (o : Output) :
    (s.setOut p o).stamp = s.stamp := rfl
@[simp] theorem State.setOut_table (s : State) (p : Port) (o : Output) :
    (s.setOut p o).table = s.table := rfl
@[simp] theorem State.setOut_rotation (s : State) (p : Port) (o : Output) :
    (s.setOut p o).rotation = s.rotation := rfl
@[simp] theorem State.setOut_outs (s : State) (p : Port) (o : Output) :
    (s.setOut p o).outs = s.outs.set p o := rfl
@[simp] theorem State.setOut_linkOuts (s : State) (p : Port) (o : Output) :
    (s.setOut p o).linkOuts = s.linkOuts := rfl
@[simp] theorem State.setOut_links (s : State) (p : Port) (o : Output) :
    (s.setOut p o).links = s.links := rfl
@[simp] theorem State.setOut_records (s : State) (p : Port) (o : Output) :
    (s.setOut p o).records = s.records := rfl
@[simp] theorem State.setOut_counters (s : State) (p : Port) (o : Output) :
    (s.setOut p o).counters = s.counters := rfl
@[simp] theorem State.setOut_linkFaults (s : State) (p : Port) (o : Output) :
    (s.setOut p o).linkFaults = s.linkFaults := rfl
@[simp] theorem State.setOut_win (s : State) (p : Port) (o : Output) :
    (s.setOut p o).win = s.win := rfl
@[simp] theorem State.setOut_pending (s : State) (p : Port) (o : Output) :
    (s.setOut p o).pending = s.pending := rfl

/-! ## setLinkOut -/

@[simp] theorem State.setLinkOut_pool (s : State) (p : LinkId) (o : LinkOutput) :
    (s.setLinkOut p o).pool = s.pool := rfl
@[simp] theorem State.setLinkOut_cells (s : State) (p : LinkId) (o : LinkOutput) :
    (s.setLinkOut p o).cells = s.cells := rfl
@[simp] theorem State.setLinkOut_descs (s : State) (p : LinkId) (o : LinkOutput) :
    (s.setLinkOut p o).descs = s.descs := rfl
@[simp] theorem State.setLinkOut_stamp (s : State) (p : LinkId) (o : LinkOutput) :
    (s.setLinkOut p o).stamp = s.stamp := rfl
@[simp] theorem State.setLinkOut_table (s : State) (p : LinkId) (o : LinkOutput) :
    (s.setLinkOut p o).table = s.table := rfl
@[simp] theorem State.setLinkOut_rotation (s : State) (p : LinkId) (o : LinkOutput) :
    (s.setLinkOut p o).rotation = s.rotation := rfl
@[simp] theorem State.setLinkOut_outs (s : State) (p : LinkId) (o : LinkOutput) :
    (s.setLinkOut p o).outs = s.outs := rfl
@[simp] theorem State.setLinkOut_linkOuts (s : State) (p : LinkId) (o : LinkOutput) :
    (s.setLinkOut p o).linkOuts = s.linkOuts.set p o := rfl
@[simp] theorem State.setLinkOut_links (s : State) (p : LinkId) (o : LinkOutput) :
    (s.setLinkOut p o).links = s.links := rfl
@[simp] theorem State.setLinkOut_records (s : State) (p : LinkId) (o : LinkOutput) :
    (s.setLinkOut p o).records = s.records := rfl
@[simp] theorem State.setLinkOut_counters (s : State) (p : LinkId) (o : LinkOutput) :
    (s.setLinkOut p o).counters = s.counters := rfl
@[simp] theorem State.setLinkOut_linkFaults (s : State) (p : LinkId) (o : LinkOutput) :
    (s.setLinkOut p o).linkFaults = s.linkFaults := rfl
@[simp] theorem State.setLinkOut_win (s : State) (p : LinkId) (o : LinkOutput) :
    (s.setLinkOut p o).win = s.win := rfl
@[simp] theorem State.setLinkOut_pending (s : State) (p : LinkId) (o : LinkOutput) :
    (s.setLinkOut p o).pending = s.pending := rfl

/-! ## setLinkPool -/

@[simp] theorem State.setLinkPool_pool (s : State) (p : LinkId) (q : LinkPool) :
    (s.setLinkPool p q).pool = { s.pool with links := s.pool.links.set p q } := rfl
@[simp] theorem State.setLinkPool_cells (s : State) (p : LinkId) (q : LinkPool) :
    (s.setLinkPool p q).cells = s.cells := rfl
@[simp] theorem State.setLinkPool_descs (s : State) (p : LinkId) (q : LinkPool) :
    (s.setLinkPool p q).descs = s.descs := rfl
@[simp] theorem State.setLinkPool_stamp (s : State) (p : LinkId) (q : LinkPool) :
    (s.setLinkPool p q).stamp = s.stamp := rfl
@[simp] theorem State.setLinkPool_table (s : State) (p : LinkId) (q : LinkPool) :
    (s.setLinkPool p q).table = s.table := rfl
@[simp] theorem State.setLinkPool_rotation (s : State) (p : LinkId) (q : LinkPool) :
    (s.setLinkPool p q).rotation = s.rotation := rfl
@[simp] theorem State.setLinkPool_outs (s : State) (p : LinkId) (q : LinkPool) :
    (s.setLinkPool p q).outs = s.outs := rfl
@[simp] theorem State.setLinkPool_linkOuts (s : State) (p : LinkId) (q : LinkPool) :
    (s.setLinkPool p q).linkOuts = s.linkOuts := rfl
@[simp] theorem State.setLinkPool_links (s : State) (p : LinkId) (q : LinkPool) :
    (s.setLinkPool p q).links = s.links := rfl
@[simp] theorem State.setLinkPool_records (s : State) (p : LinkId) (q : LinkPool) :
    (s.setLinkPool p q).records = s.records := rfl
@[simp] theorem State.setLinkPool_counters (s : State) (p : LinkId) (q : LinkPool) :
    (s.setLinkPool p q).counters = s.counters := rfl
@[simp] theorem State.setLinkPool_linkFaults (s : State) (p : LinkId) (q : LinkPool) :
    (s.setLinkPool p q).linkFaults = s.linkFaults := rfl
@[simp] theorem State.setLinkPool_win (s : State) (p : LinkId) (q : LinkPool) :
    (s.setLinkPool p q).win = s.win := rfl
@[simp] theorem State.setLinkPool_pending (s : State) (p : LinkId) (q : LinkPool) :
    (s.setLinkPool p q).pending = s.pending := rfl

/-! ## setHeld -/

@[simp] theorem State.setHeld_pool (s : State) (p : Port) (n : Nat) :
    (s.setHeld p n).pool = { s.pool with held := s.pool.held.set p n } := rfl
@[simp] theorem State.setHeld_cells (s : State) (p : Port) (n : Nat) :
    (s.setHeld p n).cells = s.cells := rfl
@[simp] theorem State.setHeld_descs (s : State) (p : Port) (n : Nat) :
    (s.setHeld p n).descs = s.descs := rfl
@[simp] theorem State.setHeld_stamp (s : State) (p : Port) (n : Nat) :
    (s.setHeld p n).stamp = s.stamp := rfl
@[simp] theorem State.setHeld_table (s : State) (p : Port) (n : Nat) :
    (s.setHeld p n).table = s.table := rfl
@[simp] theorem State.setHeld_rotation (s : State) (p : Port) (n : Nat) :
    (s.setHeld p n).rotation = s.rotation := rfl
@[simp] theorem State.setHeld_outs (s : State) (p : Port) (n : Nat) :
    (s.setHeld p n).outs = s.outs := rfl
@[simp] theorem State.setHeld_linkOuts (s : State) (p : Port) (n : Nat) :
    (s.setHeld p n).linkOuts = s.linkOuts := rfl
@[simp] theorem State.setHeld_links (s : State) (p : Port) (n : Nat) :
    (s.setHeld p n).links = s.links := rfl
@[simp] theorem State.setHeld_records (s : State) (p : Port) (n : Nat) :
    (s.setHeld p n).records = s.records := rfl
@[simp] theorem State.setHeld_counters (s : State) (p : Port) (n : Nat) :
    (s.setHeld p n).counters = s.counters := rfl
@[simp] theorem State.setHeld_linkFaults (s : State) (p : Port) (n : Nat) :
    (s.setHeld p n).linkFaults = s.linkFaults := rfl
@[simp] theorem State.setHeld_win (s : State) (p : Port) (n : Nat) :
    (s.setHeld p n).win = s.win := rfl
@[simp] theorem State.setHeld_pending (s : State) (p : Port) (n : Nat) :
    (s.setHeld p n).pending = s.pending := rfl

/-! ## setDesc -/

@[simp] theorem State.setDesc_pool (s : State) (d : DescId) (x : Option Descriptor) :
    (s.setDesc d x).pool = s.pool := rfl
@[simp] theorem State.setDesc_cells (s : State) (d : DescId) (x : Option Descriptor) :
    (s.setDesc d x).cells = s.cells := rfl
@[simp] theorem State.setDesc_descs (s : State) (d : DescId) (x : Option Descriptor) :
    (s.setDesc d x).descs = s.descs.set d.val x d.isLt := rfl
@[simp] theorem State.setDesc_stamp (s : State) (d : DescId) (x : Option Descriptor) :
    (s.setDesc d x).stamp = s.stamp := rfl
@[simp] theorem State.setDesc_table (s : State) (d : DescId) (x : Option Descriptor) :
    (s.setDesc d x).table = s.table := rfl
@[simp] theorem State.setDesc_rotation (s : State) (d : DescId) (x : Option Descriptor) :
    (s.setDesc d x).rotation = s.rotation := rfl
@[simp] theorem State.setDesc_outs (s : State) (d : DescId) (x : Option Descriptor) :
    (s.setDesc d x).outs = s.outs := rfl
@[simp] theorem State.setDesc_linkOuts (s : State) (d : DescId) (x : Option Descriptor) :
    (s.setDesc d x).linkOuts = s.linkOuts := rfl
@[simp] theorem State.setDesc_links (s : State) (d : DescId) (x : Option Descriptor) :
    (s.setDesc d x).links = s.links := rfl
@[simp] theorem State.setDesc_records (s : State) (d : DescId) (x : Option Descriptor) :
    (s.setDesc d x).records = s.records := rfl
@[simp] theorem State.setDesc_counters (s : State) (d : DescId) (x : Option Descriptor) :
    (s.setDesc d x).counters = s.counters := rfl
@[simp] theorem State.setDesc_linkFaults (s : State) (d : DescId) (x : Option Descriptor) :
    (s.setDesc d x).linkFaults = s.linkFaults := rfl
@[simp] theorem State.setDesc_win (s : State) (d : DescId) (x : Option Descriptor) :
    (s.setDesc d x).win = s.win := rfl
@[simp] theorem State.setDesc_pending (s : State) (d : DescId) (x : Option Descriptor) :
    (s.setDesc d x).pending = s.pending := rfl

/-! ## appendFree -/

@[simp] theorem State.appendFree_pool (s : State) (cs : List CellId) :
    (s.appendFree cs).pool = { s.pool with freeList := s.pool.freeList ++ cs } := rfl
@[simp] theorem State.appendFree_cells (s : State) (cs : List CellId) :
    (s.appendFree cs).cells = s.cells := rfl
@[simp] theorem State.appendFree_descs (s : State) (cs : List CellId) :
    (s.appendFree cs).descs = s.descs := rfl
@[simp] theorem State.appendFree_stamp (s : State) (cs : List CellId) :
    (s.appendFree cs).stamp = s.stamp := rfl
@[simp] theorem State.appendFree_table (s : State) (cs : List CellId) :
    (s.appendFree cs).table = s.table := rfl
@[simp] theorem State.appendFree_rotation (s : State) (cs : List CellId) :
    (s.appendFree cs).rotation = s.rotation := rfl
@[simp] theorem State.appendFree_outs (s : State) (cs : List CellId) :
    (s.appendFree cs).outs = s.outs := rfl
@[simp] theorem State.appendFree_linkOuts (s : State) (cs : List CellId) :
    (s.appendFree cs).linkOuts = s.linkOuts := rfl
@[simp] theorem State.appendFree_links (s : State) (cs : List CellId) :
    (s.appendFree cs).links = s.links := rfl
@[simp] theorem State.appendFree_records (s : State) (cs : List CellId) :
    (s.appendFree cs).records = s.records := rfl
@[simp] theorem State.appendFree_counters (s : State) (cs : List CellId) :
    (s.appendFree cs).counters = s.counters := rfl
@[simp] theorem State.appendFree_linkFaults (s : State) (cs : List CellId) :
    (s.appendFree cs).linkFaults = s.linkFaults := rfl
@[simp] theorem State.appendFree_win (s : State) (cs : List CellId) :
    (s.appendFree cs).win = s.win := rfl
@[simp] theorem State.appendFree_pending (s : State) (cs : List CellId) :
    (s.appendFree cs).pending = s.pending := rfl

/-! ## countFrameIn -/

@[simp] theorem State.countFrameIn_pool (s : State) (p : Port) :
    (s.countFrameIn p).pool = s.pool := rfl
@[simp] theorem State.countFrameIn_cells (s : State) (p : Port) :
    (s.countFrameIn p).cells = s.cells := rfl
@[simp] theorem State.countFrameIn_descs (s : State) (p : Port) :
    (s.countFrameIn p).descs = s.descs := rfl
@[simp] theorem State.countFrameIn_stamp (s : State) (p : Port) :
    (s.countFrameIn p).stamp = s.stamp := rfl
@[simp] theorem State.countFrameIn_table (s : State) (p : Port) :
    (s.countFrameIn p).table = s.table := rfl
@[simp] theorem State.countFrameIn_rotation (s : State) (p : Port) :
    (s.countFrameIn p).rotation = s.rotation := rfl
@[simp] theorem State.countFrameIn_outs (s : State) (p : Port) :
    (s.countFrameIn p).outs = s.outs := rfl
@[simp] theorem State.countFrameIn_linkOuts (s : State) (p : Port) :
    (s.countFrameIn p).linkOuts = s.linkOuts := rfl
@[simp] theorem State.countFrameIn_links (s : State) (p : Port) :
    (s.countFrameIn p).links = s.links := rfl
@[simp] theorem State.countFrameIn_records (s : State) (p : Port) :
    (s.countFrameIn p).records = s.records := rfl
@[simp] theorem State.countFrameIn_linkFaults (s : State) (p : Port) :
    (s.countFrameIn p).linkFaults = s.linkFaults := rfl
@[simp] theorem State.countFrameIn_win (s : State) (p : Port) :
    (s.countFrameIn p).win = s.win := rfl
@[simp] theorem State.countFrameIn_pending (s : State) (p : Port) :
    (s.countFrameIn p).pending = s.pending := rfl

/-! ## countDiscard -/

@[simp] theorem State.countDiscard_pool (s : State) (p : Port) :
    (s.countDiscard p).pool = s.pool := rfl
@[simp] theorem State.countDiscard_cells (s : State) (p : Port) :
    (s.countDiscard p).cells = s.cells := rfl
@[simp] theorem State.countDiscard_descs (s : State) (p : Port) :
    (s.countDiscard p).descs = s.descs := rfl
@[simp] theorem State.countDiscard_stamp (s : State) (p : Port) :
    (s.countDiscard p).stamp = s.stamp := rfl
@[simp] theorem State.countDiscard_table (s : State) (p : Port) :
    (s.countDiscard p).table = s.table := rfl
@[simp] theorem State.countDiscard_rotation (s : State) (p : Port) :
    (s.countDiscard p).rotation = s.rotation := rfl
@[simp] theorem State.countDiscard_outs (s : State) (p : Port) :
    (s.countDiscard p).outs = s.outs := rfl
@[simp] theorem State.countDiscard_linkOuts (s : State) (p : Port) :
    (s.countDiscard p).linkOuts = s.linkOuts := rfl
@[simp] theorem State.countDiscard_links (s : State) (p : Port) :
    (s.countDiscard p).links = s.links := rfl
@[simp] theorem State.countDiscard_records (s : State) (p : Port) :
    (s.countDiscard p).records = s.records := rfl
@[simp] theorem State.countDiscard_linkFaults (s : State) (p : Port) :
    (s.countDiscard p).linkFaults = s.linkFaults := rfl
@[simp] theorem State.countDiscard_win (s : State) (p : Port) :
    (s.countDiscard p).win = s.win := rfl
@[simp] theorem State.countDiscard_pending (s : State) (p : Port) :
    (s.countDiscard p).pending = s.pending := rfl

/-! ## countDelivered -/

@[simp] theorem State.countDelivered_pool (s : State) (p : Port) :
    (s.countDelivered p).pool = s.pool := rfl
@[simp] theorem State.countDelivered_cells (s : State) (p : Port) :
    (s.countDelivered p).cells = s.cells := rfl
@[simp] theorem State.countDelivered_descs (s : State) (p : Port) :
    (s.countDelivered p).descs = s.descs := rfl
@[simp] theorem State.countDelivered_stamp (s : State) (p : Port) :
    (s.countDelivered p).stamp = s.stamp := rfl
@[simp] theorem State.countDelivered_table (s : State) (p : Port) :
    (s.countDelivered p).table = s.table := rfl
@[simp] theorem State.countDelivered_rotation (s : State) (p : Port) :
    (s.countDelivered p).rotation = s.rotation := rfl
@[simp] theorem State.countDelivered_outs (s : State) (p : Port) :
    (s.countDelivered p).outs = s.outs := rfl
@[simp] theorem State.countDelivered_linkOuts (s : State) (p : Port) :
    (s.countDelivered p).linkOuts = s.linkOuts := rfl
@[simp] theorem State.countDelivered_links (s : State) (p : Port) :
    (s.countDelivered p).links = s.links := rfl
@[simp] theorem State.countDelivered_records (s : State) (p : Port) :
    (s.countDelivered p).records = s.records := rfl
@[simp] theorem State.countDelivered_linkFaults (s : State) (p : Port) :
    (s.countDelivered p).linkFaults = s.linkFaults := rfl
@[simp] theorem State.countDelivered_win (s : State) (p : Port) :
    (s.countDelivered p).win = s.win := rfl
@[simp] theorem State.countDelivered_pending (s : State) (p : Port) :
    (s.countDelivered p).pending = s.pending := rfl

/-! ## countLost -/

@[simp] theorem State.countLost_pool (s : State) (p : Port) (n : Nat) :
    (s.countLost p n).pool = s.pool := rfl
@[simp] theorem State.countLost_cells (s : State) (p : Port) (n : Nat) :
    (s.countLost p n).cells = s.cells := rfl
@[simp] theorem State.countLost_descs (s : State) (p : Port) (n : Nat) :
    (s.countLost p n).descs = s.descs := rfl
@[simp] theorem State.countLost_stamp (s : State) (p : Port) (n : Nat) :
    (s.countLost p n).stamp = s.stamp := rfl
@[simp] theorem State.countLost_table (s : State) (p : Port) (n : Nat) :
    (s.countLost p n).table = s.table := rfl
@[simp] theorem State.countLost_rotation (s : State) (p : Port) (n : Nat) :
    (s.countLost p n).rotation = s.rotation := rfl
@[simp] theorem State.countLost_outs (s : State) (p : Port) (n : Nat) :
    (s.countLost p n).outs = s.outs := rfl
@[simp] theorem State.countLost_linkOuts (s : State) (p : Port) (n : Nat) :
    (s.countLost p n).linkOuts = s.linkOuts := rfl
@[simp] theorem State.countLost_links (s : State) (p : Port) (n : Nat) :
    (s.countLost p n).links = s.links := rfl
@[simp] theorem State.countLost_records (s : State) (p : Port) (n : Nat) :
    (s.countLost p n).records = s.records := rfl
@[simp] theorem State.countLost_linkFaults (s : State) (p : Port) (n : Nat) :
    (s.countLost p n).linkFaults = s.linkFaults := rfl
@[simp] theorem State.countLost_win (s : State) (p : Port) (n : Nat) :
    (s.countLost p n).win = s.win := rfl
@[simp] theorem State.countLost_pending (s : State) (p : Port) (n : Nat) :
    (s.countLost p n).pending = s.pending := rfl

/-! ## countLinkFault -/

@[simp] theorem State.countLinkFault_pool (s : State) (p : LinkId) :
    (s.countLinkFault p).pool = s.pool := rfl
@[simp] theorem State.countLinkFault_cells (s : State) (p : LinkId) :
    (s.countLinkFault p).cells = s.cells := rfl
@[simp] theorem State.countLinkFault_descs (s : State) (p : LinkId) :
    (s.countLinkFault p).descs = s.descs := rfl
@[simp] theorem State.countLinkFault_stamp (s : State) (p : LinkId) :
    (s.countLinkFault p).stamp = s.stamp := rfl
@[simp] theorem State.countLinkFault_table (s : State) (p : LinkId) :
    (s.countLinkFault p).table = s.table := rfl
@[simp] theorem State.countLinkFault_rotation (s : State) (p : LinkId) :
    (s.countLinkFault p).rotation = s.rotation := rfl
@[simp] theorem State.countLinkFault_outs (s : State) (p : LinkId) :
    (s.countLinkFault p).outs = s.outs := rfl
@[simp] theorem State.countLinkFault_linkOuts (s : State) (p : LinkId) :
    (s.countLinkFault p).linkOuts = s.linkOuts := rfl
@[simp] theorem State.countLinkFault_links (s : State) (p : LinkId) :
    (s.countLinkFault p).links = s.links := rfl
@[simp] theorem State.countLinkFault_records (s : State) (p : LinkId) :
    (s.countLinkFault p).records = s.records := rfl
@[simp] theorem State.countLinkFault_counters (s : State) (p : LinkId) :
    (s.countLinkFault p).counters = s.counters := rfl
@[simp] theorem State.countLinkFault_linkFaults (s : State) (p : LinkId) :
    (s.countLinkFault p).linkFaults = s.linkFaults.set p (satAdd (s.linkFaults.get p) 1) := rfl
@[simp] theorem State.countLinkFault_win (s : State) (p : LinkId) :
    (s.countLinkFault p).win = s.win := rfl
@[simp] theorem State.countLinkFault_pending (s : State) (p : LinkId) :
    (s.countLinkFault p).pending = s.pending := rfl

/-! ## record -/

@[simp] theorem State.record_pool (s : State) (r : Record) :
    (s.record r).pool = s.pool := rfl
@[simp] theorem State.record_cells (s : State) (r : Record) :
    (s.record r).cells = s.cells := rfl
@[simp] theorem State.record_descs (s : State) (r : Record) :
    (s.record r).descs = s.descs := rfl
@[simp] theorem State.record_stamp (s : State) (r : Record) :
    (s.record r).stamp = s.stamp := rfl
@[simp] theorem State.record_table (s : State) (r : Record) :
    (s.record r).table = s.table := rfl
@[simp] theorem State.record_rotation (s : State) (r : Record) :
    (s.record r).rotation = s.rotation := rfl
@[simp] theorem State.record_outs (s : State) (r : Record) :
    (s.record r).outs = s.outs := rfl
@[simp] theorem State.record_linkOuts (s : State) (r : Record) :
    (s.record r).linkOuts = s.linkOuts := rfl
@[simp] theorem State.record_links (s : State) (r : Record) :
    (s.record r).links = s.links := rfl
@[simp] theorem State.record_records (s : State) (r : Record) :
    (s.record r).records = s.records.append r := rfl
@[simp] theorem State.record_counters (s : State) (r : Record) :
    (s.record r).counters = s.counters := rfl
@[simp] theorem State.record_linkFaults (s : State) (r : Record) :
    (s.record r).linkFaults = s.linkFaults := rfl
@[simp] theorem State.record_win (s : State) (r : Record) :
    (s.record r).win = s.win := rfl
@[simp] theorem State.record_pending (s : State) (r : Record) :
    (s.record r).pending = s.pending := rfl

/-! ## stopStall -/

@[simp] theorem State.stopStall_pool (s : State) (p : LinkId) :
    (s.stopStall p).pool = s.pool := rfl
@[simp] theorem State.stopStall_cells (s : State) (p : LinkId) :
    (s.stopStall p).cells = s.cells := rfl
@[simp] theorem State.stopStall_descs (s : State) (p : LinkId) :
    (s.stopStall p).descs = s.descs := rfl
@[simp] theorem State.stopStall_stamp (s : State) (p : LinkId) :
    (s.stopStall p).stamp = s.stamp := rfl
@[simp] theorem State.stopStall_table (s : State) (p : LinkId) :
    (s.stopStall p).table = s.table := rfl
@[simp] theorem State.stopStall_rotation (s : State) (p : LinkId) :
    (s.stopStall p).rotation = s.rotation := rfl
@[simp] theorem State.stopStall_outs (s : State) (p : LinkId) :
    (s.stopStall p).outs = s.outs := rfl
@[simp] theorem State.stopStall_linkOuts (s : State) (p : LinkId) :
    (s.stopStall p).linkOuts = s.linkOuts.set p { s.linkOuts.get p with stallTimer := .stopped } := rfl
@[simp] theorem State.stopStall_links (s : State) (p : LinkId) :
    (s.stopStall p).links = s.links := rfl
@[simp] theorem State.stopStall_records (s : State) (p : LinkId) :
    (s.stopStall p).records = s.records := rfl
@[simp] theorem State.stopStall_counters (s : State) (p : LinkId) :
    (s.stopStall p).counters = s.counters := rfl
@[simp] theorem State.stopStall_linkFaults (s : State) (p : LinkId) :
    (s.stopStall p).linkFaults = s.linkFaults := rfl
@[simp] theorem State.stopStall_win (s : State) (p : LinkId) :
    (s.stopStall p).win = s.win := rfl
@[simp] theorem State.stopStall_pending (s : State) (p : LinkId) :
    (s.stopStall p).pending = s.pending := rfl

/-! ## clearSlot -/

@[simp] theorem State.clearSlot_pool (s : State) (p : Port) :
    (s.clearSlot p).pool = s.pool := rfl
@[simp] theorem State.clearSlot_cells (s : State) (p : Port) :
    (s.clearSlot p).cells = s.cells := rfl
@[simp] theorem State.clearSlot_descs (s : State) (p : Port) :
    (s.clearSlot p).descs = s.descs := rfl
@[simp] theorem State.clearSlot_stamp (s : State) (p : Port) :
    (s.clearSlot p).stamp = s.stamp := rfl
@[simp] theorem State.clearSlot_table (s : State) (p : Port) :
    (s.clearSlot p).table = s.table := rfl
@[simp] theorem State.clearSlot_rotation (s : State) (p : Port) :
    (s.clearSlot p).rotation = s.rotation := rfl
@[simp] theorem State.clearSlot_outs (s : State) (p : Port) :
    (s.clearSlot p).outs = s.outs.set p { s.outs.get p with departing := none } := rfl
@[simp] theorem State.clearSlot_linkOuts (s : State) (p : Port) :
    (s.clearSlot p).linkOuts = s.linkOuts := rfl
@[simp] theorem State.clearSlot_links (s : State) (p : Port) :
    (s.clearSlot p).links = s.links := rfl
@[simp] theorem State.clearSlot_records (s : State) (p : Port) :
    (s.clearSlot p).records = s.records := rfl
@[simp] theorem State.clearSlot_counters (s : State) (p : Port) :
    (s.clearSlot p).counters = s.counters := rfl
@[simp] theorem State.clearSlot_linkFaults (s : State) (p : Port) :
    (s.clearSlot p).linkFaults = s.linkFaults := rfl
@[simp] theorem State.clearSlot_win (s : State) (p : Port) :
    (s.clearSlot p).win = s.win := rfl
@[simp] theorem State.clearSlot_pending (s : State) (p : Port) :
    (s.clearSlot p).pending = s.pending := rfl

/-! ## setQueueState -/

@[simp] theorem State.setQueueState_pool (s : State) (p : LinkId) (q : QueueState) (hold : Timer) :
    (s.setQueueState p q hold).pool = s.pool := rfl
@[simp] theorem State.setQueueState_cells (s : State) (p : LinkId) (q : QueueState) (hold : Timer) :
    (s.setQueueState p q hold).cells = s.cells := rfl
@[simp] theorem State.setQueueState_descs (s : State) (p : LinkId) (q : QueueState) (hold : Timer) :
    (s.setQueueState p q hold).descs = s.descs := rfl
@[simp] theorem State.setQueueState_stamp (s : State) (p : LinkId) (q : QueueState) (hold : Timer) :
    (s.setQueueState p q hold).stamp = s.stamp := rfl
@[simp] theorem State.setQueueState_table (s : State) (p : LinkId) (q : QueueState) (hold : Timer) :
    (s.setQueueState p q hold).table = s.table := rfl
@[simp] theorem State.setQueueState_rotation (s : State) (p : LinkId) (q : QueueState) (hold : Timer) :
    (s.setQueueState p q hold).rotation = s.rotation := rfl
@[simp] theorem State.setQueueState_outs (s : State) (p : LinkId) (q : QueueState) (hold : Timer) :
    (s.setQueueState p q hold).outs = s.outs := rfl
@[simp] theorem State.setQueueState_linkOuts (s : State) (p : LinkId) (q : QueueState) (hold : Timer) :
    (s.setQueueState p q hold).linkOuts = s.linkOuts.set p { s.linkOuts.get p with queueState := q, holdTimer := hold } := rfl
@[simp] theorem State.setQueueState_links (s : State) (p : LinkId) (q : QueueState) (hold : Timer) :
    (s.setQueueState p q hold).links = s.links := rfl
@[simp] theorem State.setQueueState_records (s : State) (p : LinkId) (q : QueueState) (hold : Timer) :
    (s.setQueueState p q hold).records = s.records := rfl
@[simp] theorem State.setQueueState_counters (s : State) (p : LinkId) (q : QueueState) (hold : Timer) :
    (s.setQueueState p q hold).counters = s.counters := rfl
@[simp] theorem State.setQueueState_linkFaults (s : State) (p : LinkId) (q : QueueState) (hold : Timer) :
    (s.setQueueState p q hold).linkFaults = s.linkFaults := rfl
@[simp] theorem State.setQueueState_win (s : State) (p : LinkId) (q : QueueState) (hold : Timer) :
    (s.setQueueState p q hold).win = s.win := rfl
@[simp] theorem State.setQueueState_pending (s : State) (p : LinkId) (q : QueueState) (hold : Timer) :
    (s.setQueueState p q hold).pending = s.pending := rfl

/-! ## setPointer -/

@[simp] theorem State.setPointer_pool (s : State) (dest : Byte) (p : Port) :
    (s.setPointer dest p).pool = s.pool := rfl
@[simp] theorem State.setPointer_cells (s : State) (dest : Byte) (p : Port) :
    (s.setPointer dest p).cells = s.cells := rfl
@[simp] theorem State.setPointer_descs (s : State) (dest : Byte) (p : Port) :
    (s.setPointer dest p).descs = s.descs := rfl
@[simp] theorem State.setPointer_stamp (s : State) (dest : Byte) (p : Port) :
    (s.setPointer dest p).stamp = s.stamp := rfl
@[simp] theorem State.setPointer_table (s : State) (dest : Byte) (p : Port) :
    (s.setPointer dest p).table = s.table := rfl
@[simp] theorem State.setPointer_rotation (s : State) (dest : Byte) (p : Port) :
    (s.setPointer dest p).rotation = s.rotation.set dest.toNat p dest.isLt := rfl
@[simp] theorem State.setPointer_outs (s : State) (dest : Byte) (p : Port) :
    (s.setPointer dest p).outs = s.outs := rfl
@[simp] theorem State.setPointer_linkOuts (s : State) (dest : Byte) (p : Port) :
    (s.setPointer dest p).linkOuts = s.linkOuts := rfl
@[simp] theorem State.setPointer_links (s : State) (dest : Byte) (p : Port) :
    (s.setPointer dest p).links = s.links := rfl
@[simp] theorem State.setPointer_records (s : State) (dest : Byte) (p : Port) :
    (s.setPointer dest p).records = s.records := rfl
@[simp] theorem State.setPointer_counters (s : State) (dest : Byte) (p : Port) :
    (s.setPointer dest p).counters = s.counters := rfl
@[simp] theorem State.setPointer_linkFaults (s : State) (dest : Byte) (p : Port) :
    (s.setPointer dest p).linkFaults = s.linkFaults := rfl
@[simp] theorem State.setPointer_win (s : State) (dest : Byte) (p : Port) :
    (s.setPointer dest p).win = s.win := rfl
@[simp] theorem State.setPointer_pending (s : State) (dest : Byte) (p : Port) :
    (s.setPointer dest p).pending = s.pending := rfl

/-! ## modLink -/

@[simp] theorem State.modLink_pool (s : State) (p : LinkId) (f : LinkPort → LinkPort) :
    (s.modLink p f).pool = s.pool := rfl
@[simp] theorem State.modLink_cells (s : State) (p : LinkId) (f : LinkPort → LinkPort) :
    (s.modLink p f).cells = s.cells := rfl
@[simp] theorem State.modLink_descs (s : State) (p : LinkId) (f : LinkPort → LinkPort) :
    (s.modLink p f).descs = s.descs := rfl
@[simp] theorem State.modLink_stamp (s : State) (p : LinkId) (f : LinkPort → LinkPort) :
    (s.modLink p f).stamp = s.stamp := rfl
@[simp] theorem State.modLink_table (s : State) (p : LinkId) (f : LinkPort → LinkPort) :
    (s.modLink p f).table = s.table := rfl
@[simp] theorem State.modLink_rotation (s : State) (p : LinkId) (f : LinkPort → LinkPort) :
    (s.modLink p f).rotation = s.rotation := rfl
@[simp] theorem State.modLink_outs (s : State) (p : LinkId) (f : LinkPort → LinkPort) :
    (s.modLink p f).outs = s.outs := rfl
@[simp] theorem State.modLink_linkOuts (s : State) (p : LinkId) (f : LinkPort → LinkPort) :
    (s.modLink p f).linkOuts = s.linkOuts := rfl
@[simp] theorem State.modLink_links (s : State) (p : LinkId) (f : LinkPort → LinkPort) :
    (s.modLink p f).links = s.links.set p (f (s.links.get p)) := rfl
@[simp] theorem State.modLink_records (s : State) (p : LinkId) (f : LinkPort → LinkPort) :
    (s.modLink p f).records = s.records := rfl
@[simp] theorem State.modLink_counters (s : State) (p : LinkId) (f : LinkPort → LinkPort) :
    (s.modLink p f).counters = s.counters := rfl
@[simp] theorem State.modLink_linkFaults (s : State) (p : LinkId) (f : LinkPort → LinkPort) :
    (s.modLink p f).linkFaults = s.linkFaults := rfl
@[simp] theorem State.modLink_win (s : State) (p : LinkId) (f : LinkPort → LinkPort) :
    (s.modLink p f).win = s.win := rfl
@[simp] theorem State.modLink_pending (s : State) (p : LinkId) (f : LinkPort → LinkPort) :
    (s.modLink p f).pending = s.pending := rfl

/-! ## latchLinkChange -/

@[simp] theorem State.latchLinkChange_pool (s : State) :
    (s.latchLinkChange).pool = s.pool := rfl
@[simp] theorem State.latchLinkChange_cells (s : State) :
    (s.latchLinkChange).cells = s.cells := rfl
@[simp] theorem State.latchLinkChange_descs (s : State) :
    (s.latchLinkChange).descs = s.descs := rfl
@[simp] theorem State.latchLinkChange_stamp (s : State) :
    (s.latchLinkChange).stamp = s.stamp := rfl
@[simp] theorem State.latchLinkChange_table (s : State) :
    (s.latchLinkChange).table = s.table := rfl
@[simp] theorem State.latchLinkChange_rotation (s : State) :
    (s.latchLinkChange).rotation = s.rotation := rfl
@[simp] theorem State.latchLinkChange_outs (s : State) :
    (s.latchLinkChange).outs = s.outs := rfl
@[simp] theorem State.latchLinkChange_linkOuts (s : State) :
    (s.latchLinkChange).linkOuts = s.linkOuts := rfl
@[simp] theorem State.latchLinkChange_links (s : State) :
    (s.latchLinkChange).links = s.links := rfl
@[simp] theorem State.latchLinkChange_records (s : State) :
    (s.latchLinkChange).records = s.records := rfl
@[simp] theorem State.latchLinkChange_counters (s : State) :
    (s.latchLinkChange).counters = s.counters := rfl
@[simp] theorem State.latchLinkChange_linkFaults (s : State) :
    (s.latchLinkChange).linkFaults = s.linkFaults := rfl
@[simp] theorem State.latchLinkChange_win (s : State) :
    (s.latchLinkChange).win = { s.win with linkChange := true } := rfl
@[simp] theorem State.latchLinkChange_pending (s : State) :
    (s.latchLinkChange).pending = s.pending := rfl

/-! ## modWin -/

@[simp] theorem State.modWin_pool (s : State) (f : Window → Window) :
    (s.modWin f).pool = s.pool := rfl
@[simp] theorem State.modWin_cells (s : State) (f : Window → Window) :
    (s.modWin f).cells = s.cells := rfl
@[simp] theorem State.modWin_descs (s : State) (f : Window → Window) :
    (s.modWin f).descs = s.descs := rfl
@[simp] theorem State.modWin_stamp (s : State) (f : Window → Window) :
    (s.modWin f).stamp = s.stamp := rfl
@[simp] theorem State.modWin_table (s : State) (f : Window → Window) :
    (s.modWin f).table = s.table := rfl
@[simp] theorem State.modWin_rotation (s : State) (f : Window → Window) :
    (s.modWin f).rotation = s.rotation := rfl
@[simp] theorem State.modWin_outs (s : State) (f : Window → Window) :
    (s.modWin f).outs = s.outs := rfl
@[simp] theorem State.modWin_linkOuts (s : State) (f : Window → Window) :
    (s.modWin f).linkOuts = s.linkOuts := rfl
@[simp] theorem State.modWin_links (s : State) (f : Window → Window) :
    (s.modWin f).links = s.links := rfl
@[simp] theorem State.modWin_records (s : State) (f : Window → Window) :
    (s.modWin f).records = s.records := rfl
@[simp] theorem State.modWin_counters (s : State) (f : Window → Window) :
    (s.modWin f).counters = s.counters := rfl
@[simp] theorem State.modWin_linkFaults (s : State) (f : Window → Window) :
    (s.modWin f).linkFaults = s.linkFaults := rfl
@[simp] theorem State.modWin_win (s : State) (f : Window → Window) :
    (s.modWin f).win = f s.win := rfl
@[simp] theorem State.modWin_pending (s : State) (f : Window → Window) :
    (s.modWin f).pending = s.pending := rfl

/-! ## setEngine -/

@[simp] theorem State.setEngine_pool (s : State) (e : Engine) :
    (s.setEngine e).pool = s.pool := rfl
@[simp] theorem State.setEngine_cells (s : State) (e : Engine) :
    (s.setEngine e).cells = s.cells := rfl
@[simp] theorem State.setEngine_descs (s : State) (e : Engine) :
    (s.setEngine e).descs = s.descs := rfl
@[simp] theorem State.setEngine_stamp (s : State) (e : Engine) :
    (s.setEngine e).stamp = s.stamp := rfl
@[simp] theorem State.setEngine_table (s : State) (e : Engine) :
    (s.setEngine e).table = s.table := rfl
@[simp] theorem State.setEngine_rotation (s : State) (e : Engine) :
    (s.setEngine e).rotation = s.rotation := rfl
@[simp] theorem State.setEngine_outs (s : State) (e : Engine) :
    (s.setEngine e).outs = s.outs := rfl
@[simp] theorem State.setEngine_linkOuts (s : State) (e : Engine) :
    (s.setEngine e).linkOuts = s.linkOuts := rfl
@[simp] theorem State.setEngine_links (s : State) (e : Engine) :
    (s.setEngine e).links = s.links := rfl
@[simp] theorem State.setEngine_records (s : State) (e : Engine) :
    (s.setEngine e).records = s.records := rfl
@[simp] theorem State.setEngine_counters (s : State) (e : Engine) :
    (s.setEngine e).counters = s.counters := rfl
@[simp] theorem State.setEngine_linkFaults (s : State) (e : Engine) :
    (s.setEngine e).linkFaults = s.linkFaults := rfl
@[simp] theorem State.setEngine_win (s : State) (e : Engine) :
    (s.setEngine e).win = { s.win with engine := e } := rfl
@[simp] theorem State.setEngine_pending (s : State) (e : Engine) :
    (s.setEngine e).pending = s.pending := rfl

/-! ## take -/

@[simp] theorem State.take_pool (s : State) :
    (s.take).pool = s.pool := rfl
@[simp] theorem State.take_cells (s : State) :
    (s.take).cells = s.cells := rfl
@[simp] theorem State.take_descs (s : State) :
    (s.take).descs = s.descs := rfl
@[simp] theorem State.take_stamp (s : State) :
    (s.take).stamp = s.stamp := rfl
@[simp] theorem State.take_table (s : State) :
    (s.take).table = s.table := rfl
@[simp] theorem State.take_rotation (s : State) :
    (s.take).rotation = s.rotation := rfl
@[simp] theorem State.take_outs (s : State) :
    (s.take).outs = s.outs := rfl
@[simp] theorem State.take_linkOuts (s : State) :
    (s.take).linkOuts = s.linkOuts := rfl
@[simp] theorem State.take_links (s : State) :
    (s.take).links = s.links := rfl
@[simp] theorem State.take_records (s : State) :
    (s.take).records = s.records := rfl
@[simp] theorem State.take_counters (s : State) :
    (s.take).counters = s.counters := rfl
@[simp] theorem State.take_linkFaults (s : State) :
    (s.take).linkFaults = s.linkFaults := rfl
@[simp] theorem State.take_win (s : State) :
    (s.take).win = { s.win with error := .ok, overrun := false, taken := s.win.params } := rfl
@[simp] theorem State.take_pending (s : State) :
    (s.take).pending = s.pending := rfl

/-! ## endCommand -/

@[simp] theorem State.endCommand_pool (s : State) (code : Code) (r : Words4) :
    (s.endCommand code r).pool = s.pool := rfl
@[simp] theorem State.endCommand_cells (s : State) (code : Code) (r : Words4) :
    (s.endCommand code r).cells = s.cells := rfl
@[simp] theorem State.endCommand_descs (s : State) (code : Code) (r : Words4) :
    (s.endCommand code r).descs = s.descs := rfl
@[simp] theorem State.endCommand_stamp (s : State) (code : Code) (r : Words4) :
    (s.endCommand code r).stamp = s.stamp := rfl
@[simp] theorem State.endCommand_table (s : State) (code : Code) (r : Words4) :
    (s.endCommand code r).table = s.table := rfl
@[simp] theorem State.endCommand_rotation (s : State) (code : Code) (r : Words4) :
    (s.endCommand code r).rotation = s.rotation := rfl
@[simp] theorem State.endCommand_outs (s : State) (code : Code) (r : Words4) :
    (s.endCommand code r).outs = s.outs := rfl
@[simp] theorem State.endCommand_linkOuts (s : State) (code : Code) (r : Words4) :
    (s.endCommand code r).linkOuts = s.linkOuts := rfl
@[simp] theorem State.endCommand_links (s : State) (code : Code) (r : Words4) :
    (s.endCommand code r).links = s.links := rfl
@[simp] theorem State.endCommand_records (s : State) (code : Code) (r : Words4) :
    (s.endCommand code r).records = s.records := rfl
@[simp] theorem State.endCommand_counters (s : State) (code : Code) (r : Words4) :
    (s.endCommand code r).counters = s.counters := rfl
@[simp] theorem State.endCommand_linkFaults (s : State) (code : Code) (r : Words4) :
    (s.endCommand code r).linkFaults = s.linkFaults := rfl
@[simp] theorem State.endCommand_win (s : State) (code : Code) (r : Words4) :
    (s.endCommand code r).win = { s.win with engine := .idle, error := code, results := r, cmdDone := true } := rfl
@[simp] theorem State.endCommand_pending (s : State) (code : Code) (r : Words4) :
    (s.endCommand code r).pending = s.pending := rfl

/-! ## setRx -/

@[simp] theorem State.setRx_pool (s : State) (p : LinkId) (f : Option RxFrame) :
    (s.setRx p f).pool = s.pool := rfl
@[simp] theorem State.setRx_cells (s : State) (p : LinkId) (f : Option RxFrame) :
    (s.setRx p f).cells = s.cells := rfl
@[simp] theorem State.setRx_descs (s : State) (p : LinkId) (f : Option RxFrame) :
    (s.setRx p f).descs = s.descs := rfl
@[simp] theorem State.setRx_stamp (s : State) (p : LinkId) (f : Option RxFrame) :
    (s.setRx p f).stamp = s.stamp := rfl
@[simp] theorem State.setRx_table (s : State) (p : LinkId) (f : Option RxFrame) :
    (s.setRx p f).table = s.table := rfl
@[simp] theorem State.setRx_rotation (s : State) (p : LinkId) (f : Option RxFrame) :
    (s.setRx p f).rotation = s.rotation := rfl
@[simp] theorem State.setRx_outs (s : State) (p : LinkId) (f : Option RxFrame) :
    (s.setRx p f).outs = s.outs := rfl
@[simp] theorem State.setRx_linkOuts (s : State) (p : LinkId) (f : Option RxFrame) :
    (s.setRx p f).linkOuts = s.linkOuts := rfl
@[simp] theorem State.setRx_links (s : State) (p : LinkId) (f : Option RxFrame) :
    (s.setRx p f).links = s.links.set p { s.links.get p with rx := f } := rfl
@[simp] theorem State.setRx_records (s : State) (p : LinkId) (f : Option RxFrame) :
    (s.setRx p f).records = s.records := rfl
@[simp] theorem State.setRx_counters (s : State) (p : LinkId) (f : Option RxFrame) :
    (s.setRx p f).counters = s.counters := rfl
@[simp] theorem State.setRx_linkFaults (s : State) (p : LinkId) (f : Option RxFrame) :
    (s.setRx p f).linkFaults = s.linkFaults := rfl
@[simp] theorem State.setRx_win (s : State) (p : LinkId) (f : Option RxFrame) :
    (s.setRx p f).win = s.win := rfl
@[simp] theorem State.setRx_pending (s : State) (p : LinkId) (f : Option RxFrame) :
    (s.setRx p f).pending = s.pending := rfl

/-! ## restartSilence -/

@[simp] theorem State.restartSilence_pool (s : State) (p : LinkId) :
    (s.restartSilence p).pool = s.pool := rfl
@[simp] theorem State.restartSilence_cells (s : State) (p : LinkId) :
    (s.restartSilence p).cells = s.cells := rfl
@[simp] theorem State.restartSilence_descs (s : State) (p : LinkId) :
    (s.restartSilence p).descs = s.descs := rfl
@[simp] theorem State.restartSilence_stamp (s : State) (p : LinkId) :
    (s.restartSilence p).stamp = s.stamp := rfl
@[simp] theorem State.restartSilence_table (s : State) (p : LinkId) :
    (s.restartSilence p).table = s.table := rfl
@[simp] theorem State.restartSilence_rotation (s : State) (p : LinkId) :
    (s.restartSilence p).rotation = s.rotation := rfl
@[simp] theorem State.restartSilence_outs (s : State) (p : LinkId) :
    (s.restartSilence p).outs = s.outs := rfl
@[simp] theorem State.restartSilence_linkOuts (s : State) (p : LinkId) :
    (s.restartSilence p).linkOuts = s.linkOuts := rfl
@[simp] theorem State.restartSilence_links (s : State) (p : LinkId) :
    (s.restartSilence p).links = s.links.set p { s.links.get p with silenceTimer := .running 64 } := rfl
@[simp] theorem State.restartSilence_records (s : State) (p : LinkId) :
    (s.restartSilence p).records = s.records := rfl
@[simp] theorem State.restartSilence_counters (s : State) (p : LinkId) :
    (s.restartSilence p).counters = s.counters := rfl
@[simp] theorem State.restartSilence_linkFaults (s : State) (p : LinkId) :
    (s.restartSilence p).linkFaults = s.linkFaults := rfl
@[simp] theorem State.restartSilence_win (s : State) (p : LinkId) :
    (s.restartSilence p).win = s.win := rfl
@[simp] theorem State.restartSilence_pending (s : State) (p : LinkId) :
    (s.restartSilence p).pending = s.pending := rfl

/-! ## putLine -/

@[simp] theorem State.putLine_pool (s : State) (p : LinkId) (c : Option LinkChar) :
    (s.putLine p c).pool = s.pool := rfl
@[simp] theorem State.putLine_cells (s : State) (p : LinkId) (c : Option LinkChar) :
    (s.putLine p c).cells = s.cells := rfl
@[simp] theorem State.putLine_descs (s : State) (p : LinkId) (c : Option LinkChar) :
    (s.putLine p c).descs = s.descs := rfl
@[simp] theorem State.putLine_stamp (s : State) (p : LinkId) (c : Option LinkChar) :
    (s.putLine p c).stamp = s.stamp := rfl
@[simp] theorem State.putLine_table (s : State) (p : LinkId) (c : Option LinkChar) :
    (s.putLine p c).table = s.table := rfl
@[simp] theorem State.putLine_rotation (s : State) (p : LinkId) (c : Option LinkChar) :
    (s.putLine p c).rotation = s.rotation := rfl
@[simp] theorem State.putLine_outs (s : State) (p : LinkId) (c : Option LinkChar) :
    (s.putLine p c).outs = s.outs := rfl
@[simp] theorem State.putLine_linkOuts (s : State) (p : LinkId) (c : Option LinkChar) :
    (s.putLine p c).linkOuts = s.linkOuts := rfl
@[simp] theorem State.putLine_links (s : State) (p : LinkId) (c : Option LinkChar) :
    (s.putLine p c).links = s.links.set p { s.links.get p with line := c } := rfl
@[simp] theorem State.putLine_records (s : State) (p : LinkId) (c : Option LinkChar) :
    (s.putLine p c).records = s.records := rfl
@[simp] theorem State.putLine_counters (s : State) (p : LinkId) (c : Option LinkChar) :
    (s.putLine p c).counters = s.counters := rfl
@[simp] theorem State.putLine_linkFaults (s : State) (p : LinkId) (c : Option LinkChar) :
    (s.putLine p c).linkFaults = s.linkFaults := rfl
@[simp] theorem State.putLine_win (s : State) (p : LinkId) (c : Option LinkChar) :
    (s.putLine p c).win = s.win := rfl
@[simp] theorem State.putLine_pending (s : State) (p : LinkId) (c : Option LinkChar) :
    (s.putLine p c).pending = s.pending := rfl

/-! ## Descriptors -/

@[simp] theorem State.desc_setDesc_self (s : State) (d : DescId) (x : Option Descriptor) :
    (s.setDesc d x).desc d = x := by
  simp [State.desc, State.setDesc]

theorem State.desc_setDesc_ne (s : State) {d e : DescId} (x : Option Descriptor) (h : e ≠ d) :
    (s.setDesc d x).desc e = s.desc e := by
  have h' : d.val ≠ e.val := fun k => h (Fin.ext k.symm)
  simp [State.desc, State.setDesc, Vector.getElem_set_ne, h']

theorem State.desc_setDesc (s : State) (d e : DescId) (x : Option Descriptor) :
    (s.setDesc d x).desc e = if e = d then x else s.desc e := by
  by_cases h : e = d
  · simp [h]
  · simp [h, State.desc_setDesc_ne s x h]

end Sys2Proof.Machine
end

