-- ==== Sys2Proof/Laws/Memory.lean ====
section
/-! SUPPORT. The frame memory: a read after a write, and the canonical form kept by every operation. -/

namespace Sys2Proof.Machine

/-- The keys of a written memory are the old ones and perhaps the address written. -/
theorem Memory.mem_write {m : Memory} {a : Nat} {b : Byte} {c : Host.Cell} (h : c ∈ Memory.write m a b) :
    c ∈ m ∨ (c = (a, b) ∧ b ≠ Config.unwrittenByte) := by
  induction m with
  | nil =>
    unfold Memory.write at h
    split at h
    · cases h
    · rename_i hb
      exact Or.inr ⟨by simpa using h, hb⟩
  | cons x rest ih =>
    obtain ⟨k, v⟩ := x
    unfold Memory.write at h
    split at h
    · split at h
      · exact Or.inl h
      · rename_i hb
        rcases List.mem_cons.1 h with h | h
        · exact Or.inr ⟨h, hb⟩
        · exact Or.inl h
    · split at h
      · split at h
        · exact Or.inl (List.mem_cons_of_mem _ h)
        · rename_i hb
          rcases List.mem_cons.1 h with h | h
          · exact Or.inr ⟨h, hb⟩
          · exact Or.inl (List.mem_cons_of_mem _ h)
      · rcases List.mem_cons.1 h with h | h
        · exact Or.inl (h ▸ List.mem_cons_self ..)
        · rcases ih h with h | h
          · exact Or.inl (List.mem_cons_of_mem _ h)
          · exact Or.inr h

/-- A write inside the frame memory keeps the canonical form. -/
theorem Memory.write_wf {m : Memory} {a : Nat} (b : Byte) (hm : Memory.wf m)
    (ha : a < Config.cellCount * Config.cellBytes) : Memory.wf (Memory.write m a b) := by
  refine ⟨?_, fun c hc => ?_⟩
  · induction m with
    | nil =>
      unfold Memory.write
      split <;> simp
    | cons x rest ih =>
      obtain ⟨k, v⟩ := x
      obtain ⟨hs, hv⟩ := hm
      have hrest : Memory.wf rest :=
        ⟨(List.pairwise_cons.1 hs).2, fun c hc => hv c (List.mem_cons_of_mem _ hc)⟩
      have hk := (List.pairwise_cons.1 hs).1
      unfold Memory.write
      split
      · rename_i hak
        split
        · exact hs
        · refine List.pairwise_cons.2 ⟨fun c hc => ?_, hs⟩
          rcases List.mem_cons.1 hc with rfl | hc
          · exact hak
          · exact Nat.lt_trans hak (hk c hc)
      · split
        · rename_i hak
          split
          · exact hrest.1
          · exact List.pairwise_cons.2 ⟨fun c hc => hak ▸ hk c hc, hrest.1⟩
        · rename_i hlt hne
          refine List.pairwise_cons.2 ⟨fun c hc => ?_, ih hrest⟩
          rcases Memory.mem_write hc with h | ⟨rfl, -⟩
          · exact hk c h
          · show k < a
            omega
  · rcases Memory.mem_write hc with h | ⟨rfl, hb⟩
    · exact hm.2 c h
    · exact ⟨hb, ha⟩

/-- An address below every key reads as unwritten. -/
theorem Memory.read_of_lt {m : Memory} {a : Nat} (h : ∀ c ∈ m, a < c.1) :
    Memory.read m a = Config.unwrittenByte := by
  induction m with
  | nil => rfl
  | cons x rest ih =>
    obtain ⟨k, v⟩ := x
    have hk : a < k := h (k, v) (List.mem_cons_self ..)
    have hne : k ≠ a := by omega
    simp only [Memory.read, hne, if_false]
    exact ih fun c hc => h c (List.mem_cons_of_mem _ hc)

/-- A read after a write to the same address gives the byte written. -/
theorem Memory.read_write_self {m : Memory} (a : Nat) (b : Byte) (hm : Memory.wf m) :
    Memory.read (Memory.write m a b) a = b := by
  induction m with
  | nil =>
    unfold Memory.write
    split
    · rename_i hb; simp [Memory.read, hb]
    · simp [Memory.read]
  | cons x rest ih =>
    obtain ⟨k, v⟩ := x
    obtain ⟨hs, hv⟩ := hm
    have hk := (List.pairwise_cons.1 hs).1
    have hrest : Memory.wf rest :=
      ⟨(List.pairwise_cons.1 hs).2, fun c hc => hv c (List.mem_cons_of_mem _ hc)⟩
    unfold Memory.write
    split
    · rename_i hak
      split
      · rename_i hb
        rw [hb]
        refine Memory.read_of_lt fun c hc => ?_
        rcases List.mem_cons.1 hc with rfl | hc
        · exact hak
        · exact Nat.lt_trans hak (hk c hc)
      · simp [Memory.read]
    · split
      · rename_i hak
        split
        · rename_i hb
          rw [hb]
          exact Memory.read_of_lt fun c hc => hak ▸ hk c hc
        · simp [Memory.read]
      · rename_i hne
        have : k ≠ a := fun h => hne h.symm
        simp only [Memory.read, this, if_false]
        exact ih hrest

/-- A write leaves every other address alone. -/
theorem Memory.read_write_ne {m : Memory} {a c : Nat} (b : Byte) (hne : c ≠ a) :
    Memory.read (Memory.write m a b) c = Memory.read m c := by
  have hac : a ≠ c := fun h => hne h.symm
  induction m with
  | nil =>
    unfold Memory.write
    split <;> simp [Memory.read, hac]
  | cons x rest ih =>
    obtain ⟨k, v⟩ := x
    unfold Memory.write
    split
    · split
      · rfl
      · simp [Memory.read, hac]
    · split
      · rename_i hak
        subst hak
        split <;> simp [Memory.read, hac]
      · simp only [Memory.read, ih]

/-- Every address of a chain lies in the frame memory. -/
theorem chainAddr_lt {chain : List CellId} {k a : Nat} (h : chainAddr? chain k = some a) :
    a < Config.cellCount * Config.cellBytes := by
  unfold chainAddr? at h
  cases hc : chain[k / Config.cellBytes]? with
  | none => rw [hc] at h; cases h
  | some c =>
    rw [hc] at h
    have hlt := c.isLt
    have hmod : k % 64 < 64 := Nat.mod_lt _ (by decide)
    have ha : a = c.val * 64 + k % 64 := by
      simpa [Config.cellBytes] using h.symm
    have : Config.cellCount * Config.cellBytes = 65536 := rfl
    omega

/-- What writing one stored byte can do: nothing where the chain has no such cell, and otherwise one write at
the address of that byte. -/
theorem State.writeFrameByte_cases (s : State) (chain : List CellId) (k : Nat) (b : Byte) :
    (chainAddr? chain k = none ∧ s.writeFrameByte chain k b = s) ∨
      ∃ a, chainAddr? chain k = some a ∧
        s.writeFrameByte chain k b = { s with cells := Memory.write s.cells a b } := by
  unfold State.writeFrameByte
  cases h : chainAddr? chain k with
  | none => exact Or.inl ⟨rfl, rfl⟩
  | some a => exact Or.inr ⟨a, rfl, rfl⟩

/-- Writing one stored byte keeps the canonical form. -/
theorem State.writeFrameByte_wf (s : State) (chain : List CellId) (k : Nat) (b : Byte)
    (h : Memory.wf s.cells) : Memory.wf (s.writeFrameByte chain k b).cells := by
  rcases s.writeFrameByte_cases chain k b with ⟨-, e⟩ | ⟨a, ha, e⟩
  · rw [e]; exact h
  · rw [e]; exact Memory.write_wf b h (chainAddr_lt ha)

/-- Writing stored bytes keeps the canonical form. -/
theorem State.writeFrameBytes_wf (s : State) (chain : List CellId) (k : Nat) (bs : List Byte)
    (h : Memory.wf s.cells) : Memory.wf (s.writeFrameBytes chain k bs).cells := by
  induction bs generalizing s k with
  | nil => exact h
  | cons b rest ih => exact ih _ _ (s.writeFrameByte_wf chain k b h)

/-- The frame memory at reset lists nothing, and has the canonical form. -/
theorem reset_cells_wf : Memory.wf State.reset.cells := by
  simp [State.reset, Memory.wf]

end Sys2Proof.Machine
end

