-- ==== Sys2Proof/Laws/Ops.lean ====
section
/-! SUPPORT. What each shared operation can do, said once: the fields it leaves alone, and the cases of its answer. -/

namespace Sys2Proof.Machine

/-! ## Freeing a descriptor -/

/-- What freeing a descriptor can do: nothing when it is FREE, and otherwise its chain goes to the free list. -/
theorem State.freeDesc_cases (s : State) (d : DescId) :
    (s.desc d = none ∧ s.freeDesc d = s) ∨ ∃ x, s.desc d = some x ∧
      s.freeDesc d = ((s.appendFree x.chain).setHeld x.source
        (s.pool.held.get x.source - x.chain.length)).setDesc d none := by
  unfold State.freeDesc
  cases h : s.desc d with
  | none => exact Or.inl ⟨rfl, rfl⟩
  | some x => exact Or.inr ⟨x, rfl, rfl⟩

/-- Freeing a descriptor touches the pool and the descriptors alone. -/
theorem State.freeDesc_frame (s : State) (d : DescId) :
    s.freeDesc d = { s with pool := (s.freeDesc d).pool, descs := (s.freeDesc d).descs } := by
  rcases s.freeDesc_cases d with ⟨-, h⟩ | ⟨x, -, h⟩ <;> (rw [h]; try rfl)

@[simp] theorem State.freeDesc_cells (s : State) (d : DescId) :
    (s.freeDesc d).cells = s.cells := (congrArg State.cells (s.freeDesc_frame d)).trans rfl
@[simp] theorem State.freeDesc_stamp (s : State) (d : DescId) :
    (s.freeDesc d).stamp = s.stamp := (congrArg State.stamp (s.freeDesc_frame d)).trans rfl
@[simp] theorem State.freeDesc_table (s : State) (d : DescId) :
    (s.freeDesc d).table = s.table := (congrArg State.table (s.freeDesc_frame d)).trans rfl
@[simp] theorem State.freeDesc_rotation (s : State) (d : DescId) :
    (s.freeDesc d).rotation = s.rotation := (congrArg State.rotation (s.freeDesc_frame d)).trans rfl
@[simp] theorem State.freeDesc_outs (s : State) (d : DescId) :
    (s.freeDesc d).outs = s.outs := (congrArg State.outs (s.freeDesc_frame d)).trans rfl
@[simp] theorem State.freeDesc_linkOuts (s : State) (d : DescId) :
    (s.freeDesc d).linkOuts = s.linkOuts := (congrArg State.linkOuts (s.freeDesc_frame d)).trans rfl
@[simp] theorem State.freeDesc_links (s : State) (d : DescId) :
    (s.freeDesc d).links = s.links := (congrArg State.links (s.freeDesc_frame d)).trans rfl
@[simp] theorem State.freeDesc_records (s : State) (d : DescId) :
    (s.freeDesc d).records = s.records := (congrArg State.records (s.freeDesc_frame d)).trans rfl
@[simp] theorem State.freeDesc_counters (s : State) (d : DescId) :
    (s.freeDesc d).counters = s.counters := (congrArg State.counters (s.freeDesc_frame d)).trans rfl
@[simp] theorem State.freeDesc_linkFaults (s : State) (d : DescId) :
    (s.freeDesc d).linkFaults = s.linkFaults := (congrArg State.linkFaults (s.freeDesc_frame d)).trans rfl
@[simp] theorem State.freeDesc_win (s : State) (d : DescId) :
    (s.freeDesc d).win = s.win := (congrArg State.win (s.freeDesc_frame d)).trans rfl
@[simp] theorem State.freeDesc_pending (s : State) (d : DescId) :
    (s.freeDesc d).pending = s.pending := (congrArg State.pending (s.freeDesc_frame d)).trans rfl
@[simp] theorem State.freeDesc_poolLinks (s : State) (d : DescId) :
    (s.freeDesc d).pool.links = s.pool.links := by
  rcases s.freeDesc_cases d with ⟨-, h⟩ | ⟨x, -, h⟩ <;> (rw [h]; try rfl)

/-- The descriptor is FREE afterwards, and every other one stands. -/
theorem State.desc_freeDesc (s : State) (d e : DescId) :
    (s.freeDesc d).desc e = if e = d then none else s.desc e := by
  rcases s.freeDesc_cases d with ⟨hd, h⟩ | ⟨x, -, h⟩
  · rw [h]
    split
    · rename_i he; rw [he, hd]
    · rfl
  · rw [h, State.desc_setDesc]
    rfl

/-! ## Releasing copies -/

/-- What the release of a copy can do: nothing when the copy set has no such copy, the descriptor freed with the
last copy, and otherwise the copy taken from the set. -/
theorem State.releaseCopy_cases (s : State) (p : Port) (d : DescId) :
    s.releaseCopy p d = s ∨ s.releaseCopy p d = s.freeDesc d ∨
      ∃ x c, s.desc d = some x ∧ x.copies.get p = some c ∧
        s.releaseCopy p d = s.setDesc d (some { x with copies := x.copies.set p none }) := by
  unfold State.releaseCopy
  cases hd : s.desc d with
  | none => exact Or.inl rfl
  | some x =>
    cases hc : x.copies.get p with
    | none => exact Or.inl (by simp only [hc])
    | some c =>
      simp only [hc]
      split
      · exact Or.inr (Or.inl rfl)
      · exact Or.inr (Or.inr ⟨x, c, rfl, hc, rfl⟩)

/-- The release of a copy touches the pool and the descriptors alone. -/
theorem State.releaseCopy_frame (s : State) (p : Port) (d : DescId) :
    s.releaseCopy p d =
      { s with pool := (s.releaseCopy p d).pool, descs := (s.releaseCopy p d).descs } := by
  rcases s.releaseCopy_cases p d with h | h | ⟨x, c, -, -, h⟩ <;> rw [h]
  · exact s.freeDesc_frame d
  · rfl

@[simp] theorem State.releaseCopy_cells (s : State) (p : Port) (d : DescId) :
    (s.releaseCopy p d).cells = s.cells := (congrArg State.cells (s.releaseCopy_frame p d)).trans rfl
@[simp] theorem State.releaseCopy_stamp (s : State) (p : Port) (d : DescId) :
    (s.releaseCopy p d).stamp = s.stamp := (congrArg State.stamp (s.releaseCopy_frame p d)).trans rfl
@[simp] theorem State.releaseCopy_table (s : State) (p : Port) (d : DescId) :
    (s.releaseCopy p d).table = s.table := (congrArg State.table (s.releaseCopy_frame p d)).trans rfl
@[simp] theorem State.releaseCopy_rotation (s : State) (p : Port) (d : DescId) :
    (s.releaseCopy p d).rotation = s.rotation := (congrArg State.rotation (s.releaseCopy_frame p d)).trans rfl
@[simp] theorem State.releaseCopy_outs (s : State) (p : Port) (d : DescId) :
    (s.releaseCopy p d).outs = s.outs := (congrArg State.outs (s.releaseCopy_frame p d)).trans rfl
@[simp] theorem State.releaseCopy_linkOuts (s : State) (p : Port) (d : DescId) :
    (s.releaseCopy p d).linkOuts = s.linkOuts := (congrArg State.linkOuts (s.releaseCopy_frame p d)).trans rfl
@[simp] theorem State.releaseCopy_links (s : State) (p : Port) (d : DescId) :
    (s.releaseCopy p d).links = s.links := (congrArg State.links (s.releaseCopy_frame p d)).trans rfl
@[simp] theorem State.releaseCopy_records (s : State) (p : Port) (d : DescId) :
    (s.releaseCopy p d).records = s.records := (congrArg State.records (s.releaseCopy_frame p d)).trans rfl
@[simp] theorem State.releaseCopy_counters (s : State) (p : Port) (d : DescId) :
    (s.releaseCopy p d).counters = s.counters := (congrArg State.counters (s.releaseCopy_frame p d)).trans rfl
@[simp] theorem State.releaseCopy_linkFaults (s : State) (p : Port) (d : DescId) :
    (s.releaseCopy p d).linkFaults = s.linkFaults := (congrArg State.linkFaults (s.releaseCopy_frame p d)).trans rfl
@[simp] theorem State.releaseCopy_win (s : State) (p : Port) (d : DescId) :
    (s.releaseCopy p d).win = s.win := (congrArg State.win (s.releaseCopy_frame p d)).trans rfl
@[simp] theorem State.releaseCopy_pending (s : State) (p : Port) (d : DescId) :
    (s.releaseCopy p d).pending = s.pending := (congrArg State.pending (s.releaseCopy_frame p d)).trans rfl
@[simp] theorem State.releaseCopy_poolLinks (s : State) (p : Port) (d : DescId) :
    (s.releaseCopy p d).pool.links = s.pool.links := by
  rcases s.releaseCopy_cases p d with h | h | ⟨x, c, -, -, h⟩ <;> rw [h] <;> simp

/-- The release of a copy touches no other descriptor. -/
theorem State.desc_releaseCopy_ne (s : State) (p : Port) {d e : DescId} (he : e ≠ d) :
    (s.releaseCopy p d).desc e = s.desc e := by
  rcases s.releaseCopy_cases p d with h | h | ⟨x, c, -, -, h⟩ <;> rw [h]
  · rw [State.desc_freeDesc, if_neg he]
  · exact State.desc_setDesc_ne _ _ he

/-- Releases one after another touch the pool and the descriptors alone. -/
theorem State.releaseAll_frame (s : State) (p : Port) (ds : List DescId) :
    s.releaseAll p ds =
      { s with pool := (s.releaseAll p ds).pool, descs := (s.releaseAll p ds).descs } := by
  induction ds generalizing s with
  | nil => rfl
  | cons d rest ih =>
    refine (ih (s.releaseCopy p d)).trans ?_
    simp [State.releaseAll]

@[simp] theorem State.releaseAll_cells (s : State) (p : Port) (ds : List DescId) :
    (s.releaseAll p ds).cells = s.cells := (congrArg State.cells (s.releaseAll_frame p ds)).trans rfl
@[simp] theorem State.releaseAll_stamp (s : State) (p : Port) (ds : List DescId) :
    (s.releaseAll p ds).stamp = s.stamp := (congrArg State.stamp (s.releaseAll_frame p ds)).trans rfl
@[simp] theorem State.releaseAll_table (s : State) (p : Port) (ds : List DescId) :
    (s.releaseAll p ds).table = s.table := (congrArg State.table (s.releaseAll_frame p ds)).trans rfl
@[simp] theorem State.releaseAll_rotation (s : State) (p : Port) (ds : List DescId) :
    (s.releaseAll p ds).rotation = s.rotation := (congrArg State.rotation (s.releaseAll_frame p ds)).trans rfl
@[simp] theorem State.releaseAll_outs (s : State) (p : Port) (ds : List DescId) :
    (s.releaseAll p ds).outs = s.outs := (congrArg State.outs (s.releaseAll_frame p ds)).trans rfl
@[simp] theorem State.releaseAll_linkOuts (s : State) (p : Port) (ds : List DescId) :
    (s.releaseAll p ds).linkOuts = s.linkOuts := (congrArg State.linkOuts (s.releaseAll_frame p ds)).trans rfl
@[simp] theorem State.releaseAll_links (s : State) (p : Port) (ds : List DescId) :
    (s.releaseAll p ds).links = s.links := (congrArg State.links (s.releaseAll_frame p ds)).trans rfl
@[simp] theorem State.releaseAll_records (s : State) (p : Port) (ds : List DescId) :
    (s.releaseAll p ds).records = s.records := (congrArg State.records (s.releaseAll_frame p ds)).trans rfl
@[simp] theorem State.releaseAll_counters (s : State) (p : Port) (ds : List DescId) :
    (s.releaseAll p ds).counters = s.counters := (congrArg State.counters (s.releaseAll_frame p ds)).trans rfl
@[simp] theorem State.releaseAll_linkFaults (s : State) (p : Port) (ds : List DescId) :
    (s.releaseAll p ds).linkFaults = s.linkFaults := (congrArg State.linkFaults (s.releaseAll_frame p ds)).trans rfl
@[simp] theorem State.releaseAll_win (s : State) (p : Port) (ds : List DescId) :
    (s.releaseAll p ds).win = s.win := (congrArg State.win (s.releaseAll_frame p ds)).trans rfl
@[simp] theorem State.releaseAll_pending (s : State) (p : Port) (ds : List DescId) :
    (s.releaseAll p ds).pending = s.pending := (congrArg State.pending (s.releaseAll_frame p ds)).trans rfl
@[simp] theorem State.releaseAll_poolLinks (s : State) (p : Port) (ds : List DescId) :
    (s.releaseAll p ds).pool.links = s.pool.links := by
  induction ds generalizing s with
  | nil => rfl
  | cons d rest ih => rw [State.releaseAll, ih, State.releaseCopy_poolLinks]

/-- A purge leaves both queues of its output empty, and touches nothing else but the pool and the descriptors. -/
theorem State.purge_frame (s : State) (p : Port) :
    s.purge p = { s with
      pool := (s.purge p).pool
      descs := (s.purge p).descs
      outs := s.outs.set p { s.outs.get p with express := [], standard := [] } } :=
  State.releaseAll_frame (s.setOut p { s.outs.get p with express := [], standard := [] }) p (s.outs.get p).queued

@[simp] theorem State.purge_outs (s : State) (p : Port) :
    (s.purge p).outs = s.outs.set p { s.outs.get p with express := [], standard := [] } :=
  (congrArg State.outs (s.purge_frame p)).trans rfl
@[simp] theorem State.purge_cells (s : State) (p : Port) :
    (s.purge p).cells = s.cells := (congrArg State.cells (s.purge_frame p)).trans rfl
@[simp] theorem State.purge_stamp (s : State) (p : Port) :
    (s.purge p).stamp = s.stamp := (congrArg State.stamp (s.purge_frame p)).trans rfl
@[simp] theorem State.purge_table (s : State) (p : Port) :
    (s.purge p).table = s.table := (congrArg State.table (s.purge_frame p)).trans rfl
@[simp] theorem State.purge_rotation (s : State) (p : Port) :
    (s.purge p).rotation = s.rotation := (congrArg State.rotation (s.purge_frame p)).trans rfl
@[simp] theorem State.purge_linkOuts (s : State) (p : Port) :
    (s.purge p).linkOuts = s.linkOuts := (congrArg State.linkOuts (s.purge_frame p)).trans rfl
@[simp] theorem State.purge_links (s : State) (p : Port) :
    (s.purge p).links = s.links := (congrArg State.links (s.purge_frame p)).trans rfl
@[simp] theorem State.purge_records (s : State) (p : Port) :
    (s.purge p).records = s.records := (congrArg State.records (s.purge_frame p)).trans rfl
@[simp] theorem State.purge_counters (s : State) (p : Port) :
    (s.purge p).counters = s.counters := (congrArg State.counters (s.purge_frame p)).trans rfl
@[simp] theorem State.purge_linkFaults (s : State) (p : Port) :
    (s.purge p).linkFaults = s.linkFaults := (congrArg State.linkFaults (s.purge_frame p)).trans rfl
@[simp] theorem State.purge_win (s : State) (p : Port) :
    (s.purge p).win = s.win := (congrArg State.win (s.purge_frame p)).trans rfl
@[simp] theorem State.purge_pending (s : State) (p : Port) :
    (s.purge p).pending = s.pending := (congrArg State.pending (s.purge_frame p)).trans rfl

/-! ## Allocation and stored bytes -/

/-- The descriptor an allocation takes is FREE and no lower one is. -/
theorem State.lowestFree_spec {s : State} {d : DescId} (h : s.lowestFree = some d) : s.desc d = none := by
  have := List.find?_some h
  simpa using this

/-- No descriptor is found exactly when none is FREE. -/
theorem State.lowestFree_none {s : State} : s.lowestFree = none ↔ ∀ d, s.desc d ≠ none := by
  unfold State.lowestFree
  rw [List.find?_eq_none]
  constructor
  · intro h d hd
    exact h d (List.mem_finRange d) (by simp [hd])
  · intro h d _ hd
    exact h d (by simpa using hd)

/-- Writing one stored byte touches the bytes of the cells alone. -/
theorem State.writeFrameByte_frame (s : State) (chain : List CellId) (k : Nat) (b : Byte) :
    s.writeFrameByte chain k b = { s with cells := (s.writeFrameByte chain k b).cells } := by
  rcases s.writeFrameByte_cases chain k b with ⟨-, h⟩ | ⟨a, -, h⟩ <;> rw [h]

@[simp] theorem State.writeFrameByte_pool (s : State) (chain : List CellId) (k : Nat) (b : Byte) :
    (s.writeFrameByte chain k b).pool = s.pool := (congrArg State.pool (s.writeFrameByte_frame chain k b)).trans rfl
@[simp] theorem State.writeFrameByte_descs (s : State) (chain : List CellId) (k : Nat) (b : Byte) :
    (s.writeFrameByte chain k b).descs = s.descs := (congrArg State.descs (s.writeFrameByte_frame chain k b)).trans rfl
@[simp] theorem State.writeFrameByte_stamp (s : State) (chain : List CellId) (k : Nat) (b : Byte) :
    (s.writeFrameByte chain k b).stamp = s.stamp := (congrArg State.stamp (s.writeFrameByte_frame chain k b)).trans rfl
@[simp] theorem State.writeFrameByte_table (s : State) (chain : List CellId) (k : Nat) (b : Byte) :
    (s.writeFrameByte chain k b).table = s.table := (congrArg State.table (s.writeFrameByte_frame chain k b)).trans rfl
@[simp] theorem State.writeFrameByte_rotation (s : State) (chain : List CellId) (k : Nat) (b : Byte) :
    (s.writeFrameByte chain k b).rotation = s.rotation := (congrArg State.rotation (s.writeFrameByte_frame chain k b)).trans rfl
@[simp] theorem State.writeFrameByte_outs (s : State) (chain : List CellId) (k : Nat) (b : Byte) :
    (s.writeFrameByte chain k b).outs = s.outs := (congrArg State.outs (s.writeFrameByte_frame chain k b)).trans rfl
@[simp] theorem State.writeFrameByte_linkOuts (s : State) (chain : List CellId) (k : Nat) (b : Byte) :
    (s.writeFrameByte chain k b).linkOuts = s.linkOuts := (congrArg State.linkOuts (s.writeFrameByte_frame chain k b)).trans rfl
@[simp] theorem State.writeFrameByte_links (s : State) (chain : List CellId) (k : Nat) (b : Byte) :
    (s.writeFrameByte chain k b).links = s.links := (congrArg State.links (s.writeFrameByte_frame chain k b)).trans rfl
@[simp] theorem State.writeFrameByte_records (s : State) (chain : List CellId) (k : Nat) (b : Byte) :
    (s.writeFrameByte chain k b).records = s.records := (congrArg State.records (s.writeFrameByte_frame chain k b)).trans rfl
@[simp] theorem State.writeFrameByte_counters (s : State) (chain : List CellId) (k : Nat) (b : Byte) :
    (s.writeFrameByte chain k b).counters = s.counters := (congrArg State.counters (s.writeFrameByte_frame chain k b)).trans rfl
@[simp] theorem State.writeFrameByte_linkFaults (s : State) (chain : List CellId) (k : Nat) (b : Byte) :
    (s.writeFrameByte chain k b).linkFaults = s.linkFaults := (congrArg State.linkFaults (s.writeFrameByte_frame chain k b)).trans rfl
@[simp] theorem State.writeFrameByte_win (s : State) (chain : List CellId) (k : Nat) (b : Byte) :
    (s.writeFrameByte chain k b).win = s.win := (congrArg State.win (s.writeFrameByte_frame chain k b)).trans rfl
@[simp] theorem State.writeFrameByte_pending (s : State) (chain : List CellId) (k : Nat) (b : Byte) :
    (s.writeFrameByte chain k b).pending = s.pending := (congrArg State.pending (s.writeFrameByte_frame chain k b)).trans rfl

/-- The cell a group start takes is the first of the reserve, and one outstanding credit goes with it. -/
theorem State.takeReserveCell_some {s t : State} {p : LinkId} {c : CellId}
    (h : s.takeReserveCell p = some (c, t)) :
    ∃ o rest, (s.pool.links.get p).outstanding = o + 1 ∧ (s.pool.links.get p).reserve = c :: rest ∧
      t = s.setLinkPool p { s.pool.links.get p with reserve := rest, outstanding := o } := by
  simp only [State.takeReserveCell] at h
  split at h
  · rename_i o c' rest ho hr
    cases h
    exact ⟨o, rest, ho, hr, rfl⟩
  · cases h

/-- A cell joins a reserve, which grows by one. -/
theorem insertCell_length (c : CellId) (l : List CellId) : (insertCell c l).length = l.length + 1 := by
  induction l with
  | nil => rfl
  | cons x rest ih =>
    unfold insertCell
    split
    · rfl
    · simp [ih]

/-! ## Links and pairs -/

@[simp] theorem lostFrame_none : lostFrame none = none := rfl

/-- What a frame in progress loses: nothing when it is sinking surplus, and otherwise the frame with its header. -/
theorem lostFrame_some (f : RxFrame) :
    lostFrame (some f) = if f.disposition = .sinkingSurplus then none else some f.header := by
  unfold lostFrame
  cases h : f.disposition <;> simp [h]

/-- What DISABLE can do: nothing to a DISABLED link, and otherwise the link closes. -/
theorem State.disableLink_cases (s : State) (p : LinkId) :
    ((s.links.get p).state = .disabled ∧ s.disableLink p = s) ∨
      ((s.links.get p).state ≠ .disabled ∧ s.disableLink p = s.closeLink p) := by
  unfold State.disableLink
  cases h : (s.links.get p).state <;> simp

@[simp] theorem serialBits_length (v : BitVec 10) : (serialBits v).length = 10 := by simp [serialBits]

/-! ## Outputs, records, the window -/

/-- The copy an output takes is the head of one class queue; the slot and the setting stay. -/
theorem Output.takeNext_some {o u : Output} {d : DescId} {cls : Class}
    (h : o.takeNext = some (d, cls, u)) :
    u.departing = o.departing ∧ u.yieldCount = o.yieldCount ∧
      ((cls = .express ∧ o.express = d :: u.express ∧ u.standard = o.standard) ∨
        (cls = .standard ∧ o.standard = d :: u.standard ∧ u.express = o.express ∧ u.yieldRun = 0)) := by
  unfold Output.takeNext at h
  split at h
  · rename_i he hs; cases h; simp [he, hs]
  · rename_i he hs
    split at h <;> cases h <;> simp [he, hs]
  · rename_i he hs; cases h; simp [he, hs]
  · cases h

/-- The record list never grows past its bound. -/
theorem RecordLog.append_list_length (l : RecordLog) (r : Record) (h : l.list.length ≤ Config.recordCap) :
    (l.append r).list.length ≤ Config.recordCap := by
  unfold RecordLog.append
  split
  · simp; omega
  · exact h

/-- A record made takes a value of the sequence counter, whether it is kept or lost. -/
@[simp] theorem RecordLog.append_nextSeq (l : RecordLog) (r : Record) :
    (l.append r).nextSeq = l.nextSeq + 1 := by
  unfold RecordLog.append
  split <;> rfl

/-- A word made of named bits has exactly the bits that are set. -/
theorem wordOfBits_getLsbD (bits : List (Nat × Bool)) (i : Nat) (h : ∀ b ∈ bits, b.1 < 16) :
    (wordOfBits bits).getLsbD i = bits.any fun b => b.2 && decide (b.1 = i) := by
  have key (l : List (Nat × Bool)) (w : Word) (hl : ∀ b ∈ l, b.1 < 16) :
      (l.foldl (fun w b => if b.2 then w ||| (1#16 <<< b.1) else w) w).getLsbD i =
        (w.getLsbD i || l.any fun b => b.2 && decide (b.1 = i)) := by
    induction l generalizing w with
    | nil => simp
    | cons b l ih =>
      rw [List.foldl_cons, ih _ fun c hc => hl c (List.mem_cons_of_mem _ hc)]
      have hb := hl b (List.mem_cons_self ..)
      obtain ⟨k, v⟩ := b
      simp only at hb
      cases v
      · simp
      · simp only [if_true, BitVec.getLsbD_or, BitVec.getLsbD_shiftLeft, List.any_cons, Bool.true_and]
        by_cases hi : k = i
        · subst hi; simp [hb]
        · rcases Nat.lt_or_ge i k with h1 | h1
          · simp [hi, h1]
          · have h2 : (1#16).getLsbD (i - k) = false := by
              rw [BitVec.getLsbD_one]; simp; omega
            simp [hi, h2]
  rw [wordOfBits, key bits 0 h]
  simp

/-- A COMMAND write taken in IDLE runs its command. -/
theorem State.commandWrite_ready {s : State} (h : HostReady s) (run : State → State) :
    s.commandWrite run = run s.take := by
  simp [State.commandWrite, h.1, h.2]

/-- What a COMMAND write can do: nothing while a hard reset is applied, its command in IDLE, and otherwise
OVERRUN alone. -/
theorem State.commandWrite_cases (s : State) (run : State → State) :
    (s.win.resetApplied = true ∧ s.commandWrite run = s) ∨ (HostReady s ∧ s.commandWrite run = run s.take) ∨
      (s.win.resetApplied = false ∧ s.win.engine ≠ .idle ∧
        s.commandWrite run = s.modWin fun w => { w with overrun := true }) := by
  unfold State.commandWrite
  cases hr : s.win.resetApplied
  · cases he : s.win.engine <;> simp_all [HostReady]
  · exact Or.inl ⟨rfl, by simp⟩

/-- A command taken in IDLE that ends in the same event leaves the window of `State.afterCommand`. -/
theorem State.take_endCommand (s : State) (code : Code) (r : Words4) :
    s.take.endCommand code r = s.afterCommand code r := rfl

end Sys2Proof.Machine
end

