-- ==== Sys2Proof/Tests/Slice0.lean ====
section
/-! SUPPORT. Small tests, with results taken from the manual's rules, layouts and worked examples, and one witness for
each statement that has hypotheses. -/

namespace Sys2Proof.Tests

open Sys2Proof Sys2Proof.Machine
set_option Elab.async false

/-! ## Small states -/

/-- The state a command answers. -/
def after (c : Instr) (s : State) : State :=
  match exec c s with
  | .next t => t
  | .fault _ => s
  | .refused _ => s

/-- Initialisation has ended: every link DISABLED, the engine IDLE. -/
def ready : State := State.reset.setEngine .idle

/-- A hard reset is applied. -/
def applied : State := State.reset.modWin fun w => { w with resetApplied := true }

/-- A state with PARAM0 to PARAM3 written. -/
def withParams (s : State) (a b c d : Word) : State := s.modWin fun w => { w with params := ⟨a, b, c, d⟩ }

/-- A state with a link in a state. -/
def withLink (s : State) (p : LinkId) (st : LinkState) : State := s.modLink p fun l => { l with state := st }

/-- A link in RUN with its output OPEN, credit to send, and a reserve whose credit is all outstanding. -/
def run (s : State) (p : LinkId) (credit : Nat) (reserve : List CellId) : State :=
  (((withLink s p .run).modLink p fun l => { l with txCredit := credit, silenceTimer := .running 64 }).setQueueState p
    .opened .stopped).setLinkPool p ⟨reserve, reserve.length, 0⟩

/-- L2 in RUN as the example of section 1.9 begins. -/
def l2Run : State := run ready .l2 2 [17, 40, 203]

/-- L2 in RUN with a frame in progress. -/
def l2Frame (f : RxFrame) : State := l2Run.setRx .l2 (some f)

/-- A header with a DEST, HOPS 3, STANDARD, and a LENGTH. -/
def header (dest : Byte) (length : Word) : Header := ⟨dest, .standard, 3, 0, length⟩

/-- A frame in assembly from a source. -/
def assembling (source : Port) (h : Option Header) (chain : List CellId) : Descriptor :=
  ⟨.assembling, source, 812, h, chain, PerPort.const none⟩

/-- A stored frame from L2 with one copy at an output. -/
def stored (h : Header) (chain : List CellId) (p : Port) (c : Copy) : Descriptor :=
  ⟨.stored, .p2, 812, some h, chain, (PerPort.const none).set p (some c)⟩

/-- Descriptor 5 as given. -/
def withDesc (s : State) (x : Descriptor) : State := s.setDesc 5 (some x)

/-- Port 0 holds one STANDARD copy of the frame of section 7.8: DEST 240, HOPS 3, LENGTH 5, stamp 812, payload 11H to
55H in cell 9. -/
def hostCopy (length : Word) : State :=
  ((withDesc ready (stored (header 240 length) [9] .p0 ⟨.standard, .queued⟩)).setOut .p0
    { Output.reset with standard := [5] }).writeFrameBytes [9] 4 [0x11#8, 0x22#8, 0x33#8, 0x44#8, 0x55#8]

/-- The read phase of that RECV. -/
def reading (cursor : Nat) : State :=
  ((withDesc (hostCopy 5) (stored (header 240 5) [9] .p0 ⟨.standard, .departing⟩)).setOut .p0
    { Output.reset with departing := some ⟨5, .standard, 0, false⟩ }).setEngine (.readPhase cursor)

/-- A SEND with LENGTH bytes of payload in descriptor 5 and cell 300, at a state of the engine. -/
def sending (dest : Byte) (length : Word) (e : Engine) : State :=
  (withDesc ready (assembling .p0 (some (header dest length)) [300])).setEngine e

/-- L4 in RUN with a STANDARD copy of descriptor 5 departing at a position. -/
def departing (h : Header) (position credit : Nat) (waiting : Bool) : State :=
  (withDesc (run ready .l4 credit []) (stored h [17, 40] .p4 ⟨.standard, .departing⟩)).setOut .p4
    { Output.reset with departing := some ⟨5, .standard, position, waiting⟩ }

/-- Entry 60 with the given contents. -/
def withEntry (s : State) (k : EntryKind) (ports : BitVec 7) : State :=
  { s with table := s.table.set 60 ⟨k, ports, .keep⟩ }

/-! ## Well-formed commands -/

theorem test_wf_credit_zero_refused : (Instr.creditReceived .l1 0).wellFormed = false := by decide
theorem test_wf_credit_seventeen_refused : (Instr.creditReceived .l1 17).wellFormed = false := by decide
theorem test_wf_credit_sixteen : (Instr.creditReceived .l1 16).wellFormed = true := by decide
theorem test_wf_softReset_without_request_refused : (Instr.softReset 0x0001#16).wellFormed = false := by decide
theorem test_wf_masterEnable_with_request_refused : (Instr.masterEnableWrite 0x8001#16).wellFormed = false := by
  decide

/-! ## Layouts (chapter 11) -/

/-- Section 11.1: DATA(00H) is 200H, CREDIT(4) is 383H. -/
theorem test_symbols : LinkChar.symbol (.data 0) = 0x200#10 ∧ LinkChar.symbol (.credit 4) = 0x383#10 := by decide

/-- R178: bit 0 of 383H, CREDIT(4), is first on the pair and bit 9 last. -/
theorem test_symbol_order :
    serialBits 0x383#10 = [true, true, false, false, false, false, false, true, true, true] ∧
    commandOfBits .l1 [true, true, false, false, false, false, false, true, true, true] = .creditReceived .l1 4 := by
  decide

/-- An even number of ones is a CODE_ERROR, and so is a control symbol with an unlisted code. -/
theorem test_symbol_errors : decodeSymbol 0x000#10 = none ∧ decodeSymbol 0x101#10 = none ∧
    decodeSymbol 0x37F#10 = none := by decide

/-- Section 11.2: DEST 30, STANDARD, HOPS 4, SPARE 0, LENGTH 130. -/
theorem test_header_bytes :
    headerBytes ⟨30, .standard, 4, 0, 130⟩ = [0x1E#8, 0x20#8, 0x00#8, 0x82#8] := by decide

/-- R5: the check of the nine bytes 31H to 39H is 29B1H. -/
theorem test_check :
    checkOf [0x31#8, 0x32#8, 0x33#8, 0x34#8, 0x35#8, 0x36#8, 0x37#8, 0x38#8, 0x39#8] = 0x29B1#16 := by
  decide +kernel

/-- Section 11.3: a write at address 0 is a CONTROL write, told apart by bit 15; 77H names no command. -/
theorem test_host_writes : commandOfWrite 0 0#4 0x8000#16 = .softReset 0x8000#16 ∧
    commandOfWrite 0 0#4 0x0001#16 = .masterEnableWrite 0x0001#16 ∧ commandOfWrite 3 4#4 0x0020#16 = .restart ∧
    commandOfWrite 0 4#4 0x0077#16 = .badCommand := by decide

/-! ## Reception (chapters 1 to 3) -/

/-- Section 1.9, step 1: the lowest reserve cell becomes the chain, and one outstanding credit goes. -/
theorem test_dataReceived_first : let t := after (.dataReceived .l2 0x7F#8) l2Run
    t.chainOf 0 = [17] ∧ t.pool.links.l2 = ⟨[40, 203], 2, 0⟩ ∧ t.frameByte [17] 0 = 0x7F#8 := by decide +kernel

/-- Section 1.9, step 5: position 64 of a LENGTH 124 frame starts group 1. -/
theorem test_dataReceived_group :
    let s := (withDesc (l2Frame ⟨64, [], some (header 1 124), 0, 0, .storing 5⟩)
      (assembling .p2 (some (header 1 124)) [12]))
    let t := after (.dataReceived .l2 1) s
    t.chainOf 5 = [12, 17] ∧ t.pool.held.p2 = 1 := by decide +kernel

/-- A complete frame of LENGTH 0 for the anchored entry 240 gives port 0 a copy (R13, R64). -/
theorem test_endGoodReceived :
    let s := withDesc (l2Frame ⟨6, [], some (header 240 0), 7, 7, .storing 5⟩)
      (assembling .p2 (some (header 240 0)) [17])
    let t := after (.endGoodReceived .l2) s
    t.outs.p0.standard = [5] ∧ t.counters.p2.framesIn = 1 ∧ t.links.l2.rx = none := by decide +kernel

/-- Section 1.9: END_CUT in place of END_GOOD is CUT_IN, with DEST and LENGTH in the report. -/
theorem test_endCutReceived :
    let s := withDesc (l2Frame ⟨130, [], some (header 1 124), 7, 7, .storing 5⟩)
      (assembling .p2 (some (header 1 124)) [17, 40])
    let t := after (.endCutReceived .l2) s
    t.records.list = [⟨0, .cutIn, some .p2, none, some (1, 124), none, none⟩] ∧ t.desc 5 = none := by
  decide +kernel

theorem test_creditReceived_sum : (after (.creditReceived .l2 2) l2Run).links.l2.txCredit = 4 := by decide +kernel

/-- R110: a sum of 65 is the fault CREDIT_OVERRUN. -/
theorem test_creditReceived_overrun :
    let t := after (.creditReceived .l2 1) (run ready .l2 64 [])
    t.links.l2.state = .faulted ∧ t.links.l2.txCredit = 0 := by decide +kernel

/-- R106: IDLE in SYNC enters RUN. -/
theorem test_idleReceived : let t := after (.idleReceived .l1) (withLink ready .l1 .sync)
    t.links.l1.state = .run ∧ t.linkOuts.l1.queueState = .opened ∧ t.win.linkChange = true := by decide +kernel

/-- R103: HELLO in LISTEN enters SYNC with both timers started. -/
theorem test_helloReceived_listen : let t := after (.helloReceived .l1) (withLink ready .l1 .listen)
    t.links.l1.state = .sync ∧ t.links.l1.syncTimer = .running 2000 ∧ t.links.l1.silenceTimer = .running 64 := by
  decide +kernel

/-- R113: HELLO in RUN is the fault RESTART_SEEN. -/
theorem test_helloReceived_run : ((after (.helloReceived .l2) l2Run).records.list.map (·.fault)) =
    [some ⟨.restartSeen, false, false⟩] := by decide +kernel

/-- Section 9.6, step 1, with an empty list: LINK_FAULT and then LINK_LOST with COUNT 3. -/
theorem test_codeErrorReceived :
    let s := ((departing (header 1 60) 3 1 false).setOut .p4 { Output.reset with
        standard := [0, 1, 2], departing := some ⟨5, .standard, 3, false⟩ }).setLinkOut .l4
      { (run ready .l4 0 []).linkOuts.l4 with holdCode := 0 }
    let t := after (.codeErrorReceived .l4) s
    t.records.list.map (fun r => (r.cause, r.count)) = [(.linkFault, none), (.linkLost, some 3)] ∧
      t.counters.p4.copiesLost = 4 ∧ t.linkOuts.l4.queueState = .closed := by decide +kernel

/-! ## Timers -/

theorem test_silenceTimerExpiry : (after (.silenceTimerExpiry .l2) l2Run).links.l2.recoveryTimer = .running 100 := by
  decide +kernel

theorem test_syncTimerExpiry :
    let s := ready.modLink .l1 fun l => { l with state := .sync, syncTimer := .running 2000 }
    ((after (.syncTimerExpiry .l1) s).records.list.map (·.fault)) = [some ⟨.syncTimeout, false, false⟩] := by
  decide +kernel

/-- R116: no restart request and auto-restart off: FAULTED with recovery over. -/
theorem test_recoveryTimerExpiry_waits :
    let s := ready.modLink .l1 fun l => { l with state := .faulted, recoveryTimer := .running 100 }
    let t := after (.recoveryTimerExpiry .l1) s
    t.links.l1.state = .faulted ∧ t.links.l1.recoveryTimer = .stopped := by decide +kernel

theorem test_recoveryTimerExpiry_restarts :
    let s := ready.modLink .l1 fun l =>
      { l with state := .faulted, recoveryTimer := .running 100, restartRequest := true }
    (after (.recoveryTimerExpiry .l1) s).links.l1.state = .listen := by decide +kernel

/-- R87: a cut at a group start past position 0 owes END_CUT. -/
theorem test_stallTimerExpiry :
    let s := (departing (header 1 124) 64 0 true).modLink .l4 id
    let u := s.setLinkOut .l4 { s.linkOuts.l4 with stallTimer := .running 1000 }
    let t := after (.stallTimerExpiry .l4) u
    t.links.l4.endCutOwed = true ∧ t.links.l4.state = .run ∧ t.counters.p4.copiesLost = 1 := by decide +kernel

/-- R91: with no copy released no record is made. -/
theorem test_holdTimerExpiry :
    let t := after (.holdTimerExpiry .l4) (ready.setQueueState .l4 .held (.running 10000))
    t.linkOuts.l4.queueState = .closed ∧ t.records.list = [] := by decide +kernel

/-! ## Refill, selection, transmission -/

/-- The pool of section 2.13, as far as a refill reads it. -/
def twoLinks (free : List CellId) : State :=
  let s := run (run ready .l3 0 [12]) .l4 0 [30, 31]
  { s with pool := { s.pool with freeList := free, refillPointer := .l3, floor := 2 } }

/-- Section 2.13, step 1: the search from pointer 3 + 1 finds L4. -/
theorem test_refill_first : let t := after .refill (twoLinks [700, 701, 702])
    t.pool.links.l4 = ⟨[30, 31, 700], 2, 1⟩ ∧ t.pool.refillPointer = .l4 ∧ t.pool.freeList = [701, 702] := by
  decide +kernel

/-- Section 2.13, step 3: a free list no longer than F gives no refill. -/
theorem test_refill_floor : (after .refill (twoLinks [700, 701])).pool.freeList = [700, 701] := by decide +kernel

/-- Section 5.11, steps 1 and 3: the EXPRESS head at run 0, the STANDARD head at run 2. -/
theorem test_selection :
    let o (r : Nat) : Output := ⟨[10, 11], [20], none, r, 2⟩
    let s (r : Nat) := (run ready .l4 9 []).setOut .p4 (o r)
    ((after (.selection .l4) (s 0)).outs.p4.departing, (after (.selection .l4) (s 0)).outs.p4.yieldRun) =
        (some ⟨10, .express, 0, false⟩, 1) ∧
      ((after (.selection .l4) (s 2)).outs.p4.departing, (after (.selection .l4) (s 2)).outs.p4.yieldRun) =
        (some ⟨20, .standard, 0, false⟩, 0) := by decide +kernel

/-- R6, section 1.10: position 1 goes out with HOPS one less. -/
theorem test_transmitCharacter_hops :
    let s := (departing (header 1 60) 1 2 false).writeFrameByte [17, 40] 1 0x18#8
    (after (.transmitCharacter .l4) s).links.l4.line = some (.data 0x10#8) := by decide +kernel

/-- R111: a group start without credit sends IDLE and keeps the position. -/
theorem test_transmitCharacter_waits :
    let t := after (.transmitCharacter .l4) (departing (header 1 124) 64 0 true)
    t.links.l4.line = some .idle ∧ t.outs.p4.departing = some ⟨5, .standard, 64, true⟩ := by decide +kernel

/-! ## The host's events -/

/-- Section 8.11, the variant for port 0: SEND ends with OK, the set of outputs, and the stamp. -/
theorem test_resolution : let t := after .resolution (sending 240 5 (.executingSend 5))
    t.win.results = ⟨0x0001#16, 0, 812, 0⟩ ∧ t.win.engine = .idle ∧ t.counters.p0.framesIn = 1 := by decide +kernel

theorem test_initialisationEnd : (after .initialisationEnd State.reset).statusWord = 0x0001#16 := by decide +kernel

theorem test_clearSwitchEnd :
    (after .clearSwitchEnd (ready.setEngine (.executingClear 7))).win.results = ⟨7, 0, 0, 0⟩ := by decide +kernel

/-- R140: while a hard reset is applied every register but ID and LINKSTATE reads 0. -/
theorem test_hardReset : let t := after .hardReset l2Run
    t.readRegister 0#4 = 0 ∧ t.readRegister 15#4 = 0x4D61#16 ∧ t.links.l2.state = .disabled := by decide +kernel

theorem test_resetRelease : (after .resetRelease applied).win.engine = .initialising ∧
    (after .resetRelease applied).win.resetApplied = false := by decide +kernel

/-- R138: the settings stay and the links go to DISABLED. -/
theorem test_softReset :
    let s := { l2Run with pool := { l2Run.pool with floor := 9 } }
    let t := after (.softReset 0x8001#16) s
    t.pool.floor = 9 ∧ t.links.l2.state = .disabled ∧ t.win.engine = .initialising ∧ t.win.masterEnable = false := by
  decide +kernel

theorem test_masterEnableWrite : (after (.masterEnableWrite 1) ready).win.masterEnable = true := by decide +kernel

/-- R136: ones clear latched causes, zeros leave them. -/
theorem test_irqCauseWrite :
    let s := ready.modWin fun w => { w with cmdDone := true, dataReq := true }
    (after (.irqCauseWrite 0x0001#16) s).causeWord = 0x0002#16 := by decide +kernel

/-- Section 8.11, step 4: the low half of an odd frame's last word is ignored. -/
theorem test_dataWrite_last : let t := after (.dataWrite 0x55FF#16) (sending 247 5 (.writePhase 5 2))
    t.win.engine = .executingSend 5 ∧ t.frameByte [300] 8 = 0x55#8 ∧ t.frameByte [300] 9 = 0#8 := by decide +kernel

/-- Section 7.8, steps 2 and 5. -/
theorem test_dataRead : (after .dataRead (reading 0)).win.dataBus = 0x1122#16 ∧
    (after .dataRead (reading 2)).win.dataBus = 0x5500#16 ∧
    (after .dataRead (reading 2)).counters.p0.framesOut = 1 ∧ (after .dataRead (reading 2)).desc 5 = none := by
  decide +kernel

/-- R180: IRQ_ENABLE keeps its six flags alone. -/
theorem test_registerWrite : (after (.registerWrite .irqEnable 0xFFFF#16) ready).win.irqEnable = 0x0707#16 ∧
    (after (.registerWrite .param2 0x1234#16) ready).win.params.w2 = 0x1234#16 := by decide +kernel

/-! ## Host commands -/

/-- Section 8.11, step 1: one cell, the write phase, DATA_REQ, and the header bytes stored. -/
theorem test_send : let t := after .send (withParams ready 247 1 2 5)
    t.win.engine = .writePhase 0 0 ∧ t.pool.held.p0 = 1 ∧ t.stamp = 1 ∧ t.frameByte (t.chainOf 0) 1 = 0x90#8 ∧
      t.win.dataReq = true := by decide +kernel

theorem test_send_length : (after .send (withParams ready 247 1 2 1017)).win.error = .badParam := by decide +kernel

/-- Section 7.8, step 1: source 2, STANDARD, HOPS 3, DEST 240, LENGTH 5, stamp 812. -/
theorem test_recv : let t := after .recv (hostCopy 5)
    t.win.results = ⟨0x0302#16, 240, 5, 812⟩ ∧ t.win.engine = .readPhase 0 ∧ t.hostq = false := by decide +kernel

theorem test_skip : let t := after .skip (hostCopy 5)
    t.desc 5 = none ∧ t.counters.p0.copiesLost = 1 ∧ t.win.results = ⟨0x0302#16, 240, 5, 812⟩ := by decide +kernel

/-- Section 8.11: ABORT in the write phase drops the frame, with no count. -/
theorem test_abort : let t := after .abort (sending 247 5 (.writePhase 5 1))
    t.desc 5 = none ∧ t.win.error = .aborted ∧ t.counters.p0.framesIn = 0 := by decide +kernel

theorem test_tableWrite : let t := after .tableWrite (withParams ready 60 2 0b0110100#16 0)
    t.table[60] = ⟨.spread, 0b0110100#7, .keep⟩ ∧ t.win.error = .ok := by decide +kernel

theorem test_tableWrite_anchored : (after .tableWrite (withParams ready 247 0 0 0)).win.error = .anchored := by
  decide +kernel

theorem test_tableRead : (after .tableRead (withParams ready 247 0 0 0)).win.results = ⟨3, 0x007E#16, 0, 6⟩ := by
  decide +kernel

theorem test_enable : let t := after .enable (withParams ready 3 1 0 0)
    t.links.l3.state = .listen ∧ t.win.results = ⟨1, 0, 0, 0⟩ := by decide +kernel

theorem test_disable : let t := after .disable (withParams l2Run 2 2 0 0)
    t.links.l2.state = .disabled ∧ t.pool.links.l2 = ⟨[], 0, 0⟩ ∧ t.linkOuts.l2.queueState = .closed ∧
      t.win.linkChange = true := by decide +kernel

/-- R93, R102: the first DISABLE leaves END_CUT on the pair, and a second one changes nothing there. -/
theorem test_disable_twice :
    let s := after .disable (withParams (departing (header 1 124) 1 0 false) 4 2 0 0)
    s.links.l4.line = some .endCut ∧ (after .disable s).links.l4.line = some .endCut ∧
      (after .disable s).win.results = ⟨0, 0, 0, 0⟩ := by decide +kernel

/-- R115: a RESTART makes no record. -/
theorem test_restart : let t := after .restart (withParams l2Run 2 3 0 0)
    t.links.l2.state = .faulted ∧ t.links.l2.restartRequest = true ∧ t.records.list = [] ∧
      t.win.results = ⟨4, 0, 0, 0⟩ := by decide +kernel

theorem test_restart_disabled : (after .restart (withParams ready 2 3 0 0)).win.error = .badState := by decide +kernel

/-- R181: stall code in the low half and hold code in the high half of PARAM2. -/
theorem test_portConfig :
    let t := after .portConfig (withParams ready 3 2 0x0A05#16 0x0021#16)
    t.linkOuts.l3 = ⟨.closed, .stopped, .stopped, 5, 10, true, false, .mbit25⟩ ∧ t.outs.p3.yieldCount = 2 := by
  decide +kernel

theorem test_portFlush : let t := after .portFlush (withParams (hostCopy 5) 0 0 0 0)
    t.outs.p0.standard = [] ∧ t.win.results = ⟨1, 0, 0, 0⟩ ∧ t.desc 5 = none := by decide +kernel

/-- R182: OPEN is 1, RUN is 3 in bits 6 to 4, transmit credit 2 in the high half; reserve and outstanding 3. -/
theorem test_readPort : (after .readPort (withParams l2Run 2 0 0 0)).win.results = ⟨0x0231#16, 0, 0, 0x0303#16⟩ := by
  decide +kernel

theorem test_setPool : (after .setPool (withParams ready 2 4 16 0)).pool.holdLimit.p4 = 16 := by decide +kernel

theorem test_setPool_active : (after .setPool (withParams l2Run 0 0 16 0)).win.error = .linksActive := by
  decide +kernel

theorem test_readPool : (after .readPool ready).win.results = ⟨1024, 64, 192, 0⟩ := by decide +kernel

theorem test_readCounter :
    let s := { ready with linkFaults := ready.linkFaults.set .l4 0x00010002#32 }
    (after .readCounter (withParams s 4 4 0 0)).win.results = ⟨1, 2, 0, 0⟩ := by decide +kernel

theorem test_clearCounters :
    let s := { ready with linkFaults := ready.linkFaults.set .l4 2 }
    (after .clearCounters s).linkFaults = PerLink.const 0 := by decide +kernel

/-- Section 11.5: the LINK_FAULT record of SEQ 207. -/
theorem test_takeRecord :
    let r : Record := ⟨207, .linkFault, some .p4, some .p4, some (18, 300), none, some ⟨.codeError, true, true⟩⟩
    let s := { ready with records := ⟨[r], 208, 3⟩ }
    let t := after .takeRecord s
    t.win.results = ⟨207, 0xC64C#16, 0x0312#16, 300⟩ ∧ t.records = ⟨[], 208, 3⟩ := by decide +kernel

theorem test_clearSwitch : let t := after .clearSwitch (hostCopy 5)
    t.win.engine = .executingClear 1 ∧ t.outs.p0.standard = [] ∧ t.desc 5 = none := by decide +kernel

theorem test_badCommand : (after .badCommand ready).readRegister 1#4 = 0x0010#16 := by decide +kernel

/-! ## Witnesses: a state and operands that meet the hypotheses of each statement, clause by clause -/

/-- A frame in progress on L2 that stores into descriptor 5, whose header has a LENGTH. -/
def l2Stores (position : Nat) (length : Word) (chain : List CellId) : State :=
  withDesc (l2Frame ⟨position, [], some (header 240 length), 7, 7, .storing 5⟩)
    (assembling .p2 (some (header 240 length)) chain)

/-- The same frame before position 4. -/
def l2Early (position : Nat) (early : List Byte) (disp : Disposition) : State :=
  withDesc (l2Frame ⟨position, early, none, 7, 0, disp⟩) (assembling .p2 none [17])

/-- Every descriptor in use. -/
def noneFree (s : State) : State := { s with descs := Vector.replicate 192 (some (assembling .p1 none [])) }

/-- L4's output with all three exclusions after the first at hand: OPEN, 32 EXPRESS copies. -/
def fullOutput : State := (run ready .l4 0 []).setOut .p4 { Output.reset with express := List.replicate 32 5 }

/-- A state with a record list. -/
def withRecords (s : State) (l : List Record) : State := { s with records := ⟨l, 5, 3⟩ }

/-- A link in FAULTED, its recovery running or over. -/
def faulted (t : Timer) : State := ready.modLink .l2 fun l => { l with state := .faulted, recoveryTimer := t }

theorem witness_StepTakesTheFrontCommand :
    ({ ready with pending := [.refill, .send] } : State).pending = .refill :: [.send] ∧ ready.pending = [] := by
  decide +kernel

theorem witness_HardResetReleaseAndInitialisationEnd :
    applied.win.resetApplied = true ∧
      (State.reset.win.resetApplied = false ∧ State.reset.win.engine = .initialising) ∧
      ready.win.engine ≠ .initialising := by decide +kernel

theorem witness_ControlRegisterAndCauseWrites :
    ready.win.resetApplied = false ∧ (0x8000#16 : Word).getLsbD 15 = true ∧ (0x7FFF#16 : Word).getLsbD 15 = false := by
  decide +kernel

theorem witness_WritesNotTaken :
    (isCommandWrite .send = true ∧ applied.win.resetApplied = true) ∧
      (State.reset.win.resetApplied = false ∧ State.reset.win.engine ≠ .idle ∧ State.reset.win.engine.xreq = false) ∧
      ((reading 0).win.resetApplied = false ∧ (reading 0).win.engine ≠ .idle ∧ Instr.send ≠ .abort) ∧
      (reading 0).win.engine = .readPhase 0 := by decide +kernel

theorem witness_UnknownCommandCode : HostReady ready ∧ State.reset.win.resetApplied = false ∧
    State.reset.win.engine ≠ .idle ∧ commandOfCode 0 0x0000#16 = .badCommand ∧
    commandOfCode 0 0x0101#16 = .badCommand ∧ commandOfCode 0 0x0050#16 ≠ .badCommand := by decide +kernel

theorem witness_WindowWordsShowTheState : (applied.win.resetApplied = true ∧ (0#4 : BitVec 4) ≠ 14#4 ∧
    (0#4 : BitVec 4) ≠ 15#4) ∧ ready.win.resetApplied = false := by decide +kernel

theorem witness_PoolLowLevel :
    (withParams { ready with pool := { ready.pool with floor := 0 } } 0 0 0 0).pool.floor = 0 ∧
      (twoLinks [700, 701, 702]).poolLow = false ∧ (twoLinks [700]).poolLow = true ∧
      (let s := (twoLinks [700]).modWin fun w => { w with irqEnable := 0x0400#16, masterEnable := true }
       s.poolLow = true ∧ s.win.irqEnable.getLsbD 10 = true ∧ s.win.masterEnable = true ∧
         s.win.resetApplied = false) ∧
      { ready with pool := { ready.pool with floor := 256 } }.pool.floor ≤ 256 ∧
      (HostReady ready ∧ ready.allDisabled = true) := by decide +kernel

theorem witness_SendRefusedByItsChecks :
    (HostReady (withParams ready 0 0 0 1017) ∧ HostReady (withParams ready 0 2 0 0) ∧
      HostReady (withParams ready 0 0 16 0)) ∧
    (HostReady (noneFree (withParams ready 0 1 15 1016)) ∧
      ∀ d, (noneFree (withParams ready 0 1 15 1016)).desc d ≠ none) ∧
    (let s := (withParams ready 0 1 15 1016).setHeld .p0 113
     HostReady s ∧ s.desc 0 = none ∧ s.pool.holdLimit.p0 < s.pool.held.p0 + (4 + s.win.params.w3.toNat + 63) / 64) ∧
    (let s := { withParams ready 0 1 15 1016 with pool := { ready.pool with freeList := [1, 2] } }
     HostReady s ∧ s.desc 0 = none ∧
       s.pool.held.p0 + (4 + s.win.params.w3.toNat + 63) / 64 ≤ s.pool.holdLimit.p0 ∧
       s.pool.freeList.length < (4 + s.win.params.w3.toNat + 63) / 64) := by decide +kernel

/-- SEND with descriptor 0 in use and port 0 at 112 of its 128 cells. -/
def sendState (length : Word) : State :=
  ((withParams ready 247 1 15 length).setDesc 0 (some (assembling .p1 none []))).setHeld .p0 112

theorem witness_SendAllocatesItsFrame :
    (HostReady (sendState 1016) ∧ Memory.wf (sendState 1016).cells ∧ (sendState 1016).win.params.w3.toNat ≤ 1016 ∧
      (sendState 1016).pool.held.p0 + (4 + 1016 + 63) / 64 ≤ (sendState 1016).pool.holdLimit.p0 ∧
      (4 + 1016 + 63) / 64 ≤ (sendState 1016).pool.freeList.length) ∧
    (HostReady (sendState 0) ∧ (sendState 0).win.params.w3 = 0) ∧
    LowestFree (sendState 0) 1 := by
  refine ⟨by decide +kernel, by decide +kernel, ?_⟩
  unfold LowestFree
  decide +kernel

theorem witness_DataWriteStoresAWord : ∀ cursor ∈ [0, 1, 2],
    let s := sending 247 5 (.writePhase 5 cursor)
    s.win.resetApplied = false ∧ s.win.engine = .writePhase 5 cursor ∧ Memory.wf s.cells ∧
      s.desc 5 = some (assembling .p0 (some (header 247 5)) [300]) ∧
      [(300 : CellId)].length = (4 + (header 247 5).length.toNat + 63) / 64 ∧
      2 * cursor < (header 247 5).length.toNat := by decide +kernel

theorem witness_ResolutionEndsSend :
    (∀ dest ∈ [(0 : Byte), 240], (sending dest 5 (.executingSend 5)).win.engine = .executingSend 5 ∧
      (sending dest 5 (.executingSend 5)).desc 5 = some (assembling .p0 (some (header dest 5)) [300])) ∧
    ((sending 0 5 (.executingSend 5)).resolve 5 .p0 (header 0 5)).1 = .discard .invalidDest ∧
    ((sending 240 5 (.executingSend 5)).resolve 5 .p0 (header 240 5)).1 = .place [.p0] [] none ∧
    ready.win.engine = .idle := by decide +kernel

theorem witness_AbortEndsADataPhase : HostReady ready ∧
    (sending 247 5 (.writePhase 5 0)).win.engine = .writePhase 5 0 ∧
    ((reading 1).win.engine = .readPhase 1 ∧ (reading 1).outs.p0.departing = some ⟨5, .standard, 0, false⟩) := by
  decide +kernel

/-- A stored frame with copies at port 0 and at L4. -/
def twoCopies : Descriptor :=
  { stored (header 1 5) [9] .p0 ⟨.standard, .queued⟩ with
    copies := ((PerPort.const none).set .p0 (some ⟨.standard, .queued⟩)).set .p4 (some ⟨.standard, .queued⟩) }

theorem witness_ReleaseOfCopiesAndChains :
    (hostCopy 5).desc 5 = some (stored (header 240 5) [9] .p0 ⟨.standard, .queued⟩) ∧
    ((stored (header 240 5) [9] .p0 ⟨.standard, .queued⟩).copies.p0 ≠ none ∧
      ∀ q ∈ Port.all, q ≠ .p0 → (stored (header 240 5) [9] .p0 ⟨.standard, .queued⟩).copies.get q = none) ∧
    ((withDesc ready twoCopies).desc 5 = some twoCopies ∧ twoCopies.copies.p0 ≠ none ∧ twoCopies.copies.p4 ≠ none) := by
  decide +kernel

/-- A record of no special kind. -/
def someRecord : Record := ⟨0, .cutIn, some .p2, none, none, none, none⟩

theorem witness_RecordSequenceAndOverflow :
    (List.replicate 15 someRecord).length < 16 ∧
    (16 ≤ (List.replicate 16 someRecord).length ∧ (254 : Nat) < 255) ∧
    (HostReady ready ∧ ready.records.overflow ≤ 255) ∧
    ready.win.resetApplied = false ∧ (0x8000#16 : Word).getLsbD 15 = true := by decide +kernel

theorem witness_ExclusionStepsInOrder :
    (Port.p4 = .p4 ∧ (run ready .l4 0 []).reflect .p4 = false) ∧
    (¬ (Port.p4 = .p2) ∧ Port.p4 ≠ .p0 ∧ (0 : BitVec 4) = 0) ∧
    (¬ (Port.p4 = .p2) ∧ ¬ ((1 : BitVec 4) = 0) ∧ ready.queueState .p4 = .closed) ∧
    (¬ (Port.p4 = .p2) ∧ ¬ ((1 : BitVec 4) = 0) ∧ fullOutput.queueState .p4 ≠ .closed ∧
      32 ≤ ((fullOutput.outs.get .p4).queue .express).length) ∧
    (¬ (Port.p0 = .p2) ∧ ready.queueState .p0 ≠ .closed ∧ ¬ 32 ≤ ((ready.outs.get .p0).queue .express).length) := by
  decide +kernel

theorem witness_InvalidAndSingleEntries : (ready.entry 60).kind = .invalid ∧
    ((ready.entry 240).kind = .single ∧ members (ready.entry 240).ports = [.p0] ∧
      ready.candidates .p2 3 .standard [.p0] = .ok [.p0]) ∧
    ((ready.entry 241).kind = .single ∧ members (ready.entry 241).ports = [.p1] ∧
      ready.candidates .p2 3 .standard [.p1] = .error .portClosed) := by decide +kernel

theorem witness_SpreadChoiceInThreeStages :
    ((withEntry ready .spread 0b0110100#7).entry 60).kind = .spread ∧
    (withEntry ready .spread 0b0110100#7).candidates .p1 3 .standard (members 0b0110100#7) = .error .portClosed ∧
    (withEntry (run ready .l4 0 []) .spread 0b0110100#7).candidates .p1 3 .standard (members 0b0110100#7) =
      .ok [.p4] := by decide +kernel

theorem witness_FanoutCopiesAndRefusals :
    ((withEntry ready .fanout 0b0011111#7).entry 60).kind = .fanout ∧
    (withEntry ready .fanout 0b0010000#7).candidates .p3 2 .express (members 0b0010000#7) = .error .portClosed ∧
    (withEntry (run ready .l4 0 []) .fanout 0b0011111#7).candidates .p3 2 .express (members 0b0011111#7) =
      .ok [.p0, .p4] := by decide +kernel

theorem witness_ResolutionHandsOnItsOutcome :
    (l2Stores 11 5 [17]).desc 5 = some (assembling .p2 (some (header 240 5)) [17]) ∧
    (l2Stores 11 5 [17]).decideRoute .p2 (header 240 5) = .place [.p0] [] none ∧
    (l2Stores 11 5 [17]).decideRoute .p2 (header 60 5) = .discard .invalidDest := by decide +kernel

theorem witness_IgnoredCharacters : (ready.links.get .l1).state = .disabled ∧
    ((withLink ready .l1 .listen).links.get .l1).state = .listen ∧ ((faulted .stopped).links.get .l2).state = .faulted := by
  decide +kernel

theorem witness_BringUpByHelloIdleAndCredit : ((withLink ready .l1 .listen).links.get .l1).state = .listen ∧
    (((withLink ready .l1 .sync).links.get .l1).state = .sync ∧ 1 ≤ 1 ∧ 16 ≤ 16) := by decide +kernel

theorem witness_IdleAndCreditInRun :
    ((run ready .l4 63 []).links.get .l4).state = .run ∧
    64 < ((run ready .l4 63 []).links.get .l4).txCredit + 2 ∧
    (((run ready .l4 63 []).links.get .l4).txCredit + 1 ≤ 64 ∧ ((run ready .l4 63 []).outs.get .p4).departing = none) ∧
    (((departing (header 1 124) 64 0 true).links.get .l4).txCredit + 16 ≤ 64 ∧
      ((departing (header 1 124) 64 0 true).outs.get .p4).departing = some ⟨5, .standard, 64, true⟩) := by
  decide +kernel

theorem witness_DataStartsAFrame :
    (((run ready .l2 0 []).links.get .l2).state = .run ∧ ((run ready .l2 0 []).links.get .l2).rx = none ∧
      ((run ready .l2 0 []).pool.links.get .l2).outstanding = 0) ∧
    ((l2Run.links.get .l2).rx = none ∧ (l2Run.pool.links.get .l2).outstanding = 2 + 1 ∧
      (l2Run.pool.links.get .l2).reserve = 17 :: [40, 203] ∧ l2Run.desc 0 = none ∧ Memory.wf l2Run.cells) ∧
    (((noneFree l2Run).links.get .l2).rx = none ∧ ∀ d, (noneFree l2Run).desc d ≠ none) := by decide +kernel

theorem witness_DataCompletesTheHeader :
    (∀ disp ∈ [Disposition.storing 5, .sinkingNoDescriptor], ∀ early ∈ [[(0xF0#8 : Byte)], [0xF0, 0x98, 0x03]],
      let s := l2Early early.length early disp
      (s.links.get .l2).state = .run ∧ (s.links.get .l2).rx = some ⟨early.length, early, none, 7, 0, disp⟩ ∧
        disp ≠ .sinkingSurplus ∧ Memory.wf s.cells ∧ s.desc 5 ≠ none) ∧
    1017 ≤ ((0x03#8 ++ 0xF9#8 : Word)).toNat ∧ ((0x03#8 ++ 0xF8#8 : Word)).toNat ≤ 1016 := by decide +kernel

theorem witness_DataFillsTheFrame :
    (∀ position ∈ [4, 63, 64], let s := l2Stores position 124 [12]
      (s.links.get .l2).state = .run ∧
      (s.links.get .l2).rx = some ⟨position, [], some (header 240 124), 7, 7, .storing 5⟩ ∧
      position < 4 + (header 240 124).length.toNat ∧ Memory.wf s.cells ∧
      s.desc 5 = some (assembling .p2 (some (header 240 124)) [12]) ∧
      (s.pool.links.get .l2).outstanding = 2 + 1 ∧ (s.pool.links.get .l2).reserve = 17 :: [40, 203]) ∧
    ((l2Stores 64 124 [12]).setLinkPool .l2 ⟨[], 0, 0⟩).pool.links.l2.outstanding = 0 ∧
    ((l2Frame ⟨64, [], some (header 240 124), 7, 7, .sinkingNoDescriptor⟩).links.get .l2).rx =
      some ⟨64, [], some (header 240 124), 7, 7, .sinkingNoDescriptor⟩ := by decide +kernel

theorem witness_DataBeyondTheStoredBytes :
    (∀ position ∈ [128, 129, 130, 131], ((l2Stores position 124 [12, 13]).links.get .l2).rx =
      some ⟨position, [], some (header 240 124), 7, 7, .storing 5⟩ ∧
      ((l2Stores position 124 [12, 13]).links.get .l2).state = .run) ∧
    4 + (header 240 124).length.toNat = 128 ∧
    ((l2Frame ⟨130, [], none, 7, 7, .sinkingSurplus⟩).links.get .l2).rx =
      some ⟨130, [], none, 7, 7, .sinkingSurplus⟩ := by decide +kernel

theorem witness_EndOfAFrameDecidesItsOutcome :
    (∀ disp ∈ [Disposition.sinkingSurplus, .sinkingNoDescriptor, .storing 5],
      ((l2Frame ⟨2, [1, 2], none, 7, 0, disp⟩).links.get .l2).state = .run ∧
      ((l2Frame ⟨2, [1, 2], none, 7, 0, disp⟩).links.get .l2).rx = some ⟨2, [1, 2], none, 7, 0, disp⟩) ∧
    (∀ position ∈ [129, 130], ((l2Stores position 124 [12, 13]).links.get .l2).rx =
      some ⟨position, [], some (header 240 124), 7, 7, .storing 5⟩) ∧
    ((l2Frame ⟨130, [], some (header 240 124), 8, 7, .storing 5⟩).links.get .l2).rx =
      some ⟨130, [], some (header 240 124), 8, 7, .storing 5⟩ ∧
    4 + (header 240 124).length.toNat + 2 = 130 := by decide +kernel

theorem witness_FaultConditions :
    ((l2Run.links.get .l2).state = .run ∧ (l2Run.links.get .l2).silenceTimer ≠ .stopped ∧
      (l2Run.links.get .l2).rx = none) ∧
    (let s := ready.modLink .l2 fun l => { l with state := .sync, syncTimer := .running 2000 }
     (s.links.get .l2).state = .sync ∧ (s.links.get .l2).syncTimer ≠ .stopped) ∧
    (let s := ready.modLink .l2 fun l => { l with state := .sync, silenceTimer := .running 64 }
     (s.links.get .l2).state = .sync ∧ (s.links.get .l2).silenceTimer ≠ .stopped) ∧
    ((ready.links.get .l2).silenceTimer = .stopped ∧ (ready.links.get .l2).syncTimer = .stopped) := by decide +kernel

theorem witness_EnteringFaulted :
    ((withLink ready .l2 .sync).links.get .l2).state = .sync ∧
    ((l2Run.links.get .l2).state = .run ∧ (l2Run.linkOuts.get .l2).holdCode ≠ 0) ∧
    (let s := l2Run.setLinkOut .l2 { l2Run.linkOuts.l2 with holdCode := 0 }
     (s.links.get .l2).state = .run ∧ (s.linkOuts.get .l2).holdCode = 0) ∧
    ((l2Run.links.get .l2).rx = none ∧ ∀ disp ∈ [Disposition.sinkingSurplus, .sinkingNoDescriptor],
      ((l2Frame ⟨130, [], none, 7, 7, disp⟩).links.get .l2).rx = some ⟨130, [], none, 7, 7, disp⟩) := by
  decide +kernel

theorem witness_HoldExpiryPurgesTheOutput :
    ((1 : Byte).toNat ≤ 127 ∧ (127 : Byte).toNat ≤ 127 ∧ 128 ≤ (128 : Byte).toNat) ∧
    ((ready.setQueueState .l4 .held (.running 10000)).linkOuts.get .l4).holdTimer ≠ .stopped ∧
    (ready.linkOuts.get .l4).holdTimer = .stopped := by decide +kernel

theorem witness_RecoveryEndsInListenOrWaits :
    (((faulted (.running 100)).links.get .l2).state = .faulted ∧
      ((faulted (.running 100)).links.get .l2).recoveryTimer ≠ .stopped ∧
      ((faulted (.running 100)).links.get .l2).restartRequest = false ∧
      ((faulted (.running 100)).linkOuts.get .l2).autoRestart = false) ∧
    (((faulted (.running 100)).modLink .l2 fun l => { l with restartRequest := true }).links.get .l2).restartRequest =
      true ∧ ((faulted .stopped).links.get .l2).recoveryTimer = .stopped := by decide +kernel

/-- The stall timer of L4 running for a departure that waits. -/
def stalled : State :=
  let s := departing (header 1 124) 64 0 true
  s.setLinkOut .l4 { s.linkOuts.l4 with stallTimer := .running 1000 }

theorem witness_StallExpiryCutsTheDeparture :
    ((stalled.linkOuts.get .l4).stallTimer ≠ .stopped ∧
      (stalled.outs.get .p4).departing = some ⟨5, .standard, 64, true⟩ ∧
      stalled.desc 5 = some (stored (header 1 124) [17, 40] .p4 ⟨.standard, .departing⟩)) ∧
    (ready.linkOuts.get .l4).stallTimer = .stopped := by decide +kernel

theorem witness_RefillServesLinksInTurn :
    ((twoLinks [700, 701, 702]).refillable .l4 = true ∧ (twoLinks [700, 701, 702]).refillable .l3 = true ∧
      (twoLinks [700, 701, 702]).pool.freeList = 700 :: [701, 702]) ∧
    (∀ p ∈ LinkId.all, (twoLinks [700, 701]).refillable p = false) ∧
    [(12 : CellId), 40].Pairwise (· ≤ ·) := by decide +kernel

theorem witness_ClassRuleOfSelection :
    (Output.mk [10] [20] none 1 2).express = 10 :: [] ∧ (Output.mk [10] [20] none 1 2).yieldRun < 2 ∧
    ¬ ((Output.mk [10] [20] none 2 2).standard = [] ∨ (Output.mk [10] [20] none 2 2).yieldCount = 0 ∨
      (Output.mk [10] [20] none 2 2).yieldRun < (Output.mk [10] [20] none 2 2).yieldCount) := by decide +kernel

theorem witness_SelectionStartsADeparture :
    (let s := (withDesc (run ready .l4 0 []) (stored (header 1 5) [9] .p4 ⟨.standard, .queued⟩)).setOut .p4
        { Output.reset with standard := [5] }
     (s.linkOuts.get .l4).queueState = .opened ∧ (s.outs.get .p4).departing = none ∧
       (s.outs.get .p4).takeNext = some (5, .standard, Output.reset) ∧
       s.desc 5 = some (stored (header 1 5) [9] .p4 ⟨.standard, .queued⟩) ∧
       (stored (header 1 5) [9] .p4 ⟨.standard, .queued⟩).copies.get .p4 = some ⟨.standard, .queued⟩) ∧
    (ready.linkOuts.get .l4).queueState ≠ .opened := by decide +kernel

theorem witness_TransmissionOutsideADeparture :
    (ready.links.get .l2).state = .disabled ∧ ((withLink ready .l2 .listen).links.get .l2).state = .listen ∧
    (∀ k ∈ [SyncStep.hello, .idle, .stream],
      let s := ready.modLink .l2 fun l => { l with state := .sync, syncStep := k }
      (s.links.get .l2).state = .sync ∧ (s.links.get .l2).syncStep = k) ∧
    ((l2Run.links.get .l2).state = .run ∧ (l2Run.links.get .l2).endCutOwed = false ∧
      (l2Run.outs.get .p2).departing = none) ∧
    ((l2Run.modLink .l2 fun l => { l with endCutOwed := true }).links.get .l2).endCutOwed = true := by decide +kernel

theorem witness_TransmissionOfADeparture :
    (∀ position ∈ [0, 63, 64, 128, 130], ∀ credit ∈ [0, 1], let s := departing (header 1 124) position credit false
      (s.links.get .l4).state = .run ∧ (s.links.get .l4).endCutOwed = false ∧
      (s.links.get .l4).txCredit = credit ∧ (s.pool.links.get .l4).pendingCredit = 0 ∧
      (s.outs.get .p4).departing = some ⟨5, .standard, position, false⟩ ∧
      s.desc 5 = some (stored (header 1 124) [17, 40] .p4 ⟨.standard, .departing⟩)) ∧
    ((departing (header 1 124) 64 0 false).setLinkPool .l4 ⟨[3], 0, 1⟩).pool.links.l4.pendingCredit ≠ 0 := by
  decide +kernel

theorem witness_HeaderLayoutSentBytesAndCheck :
    headerBytes (header 1 124) = [0x01#8, 0x18#8, 0x00#8, 0x7C#8] ∧
    (departing (header 1 124) 0 1 false).desc 5 =
      some (stored (header 1 124) [17, 40] .p4 ⟨.standard, .departing⟩) ∧
    (let s := (departing (header 1 124) 0 1 false).writeFrameByte [17, 40] 1 0x18#8
     s.frameByte [17, 40] 1 = (0#1 ++ (header 1 124).hops ++ 0#3 : BitVec 8)) := by decide +kernel

theorem witness_RecvSelectsACopy :
    (HostReady ready ∧ ready.outs.p0.express = [] ∧ ready.outs.p0.standard = []) ∧
    (HostReady (hostCopy 1) ∧ (hostCopy 1).outs.p0.takeNext = some (5, .standard, Output.reset) ∧
      (hostCopy 1).desc 5 = some (stored (header 240 1) [9] .p0 ⟨.standard, .queued⟩)) ∧
    (HostReady (hostCopy 0) ∧ (hostCopy 0).outs.p0.takeNext = some (5, .standard, Output.reset) ∧
      (hostCopy 0).desc 5 = some (stored (header 240 0) [9] .p0 ⟨.standard, .queued⟩)) ∧
    (stored (header 240 1) [9] .p0 ⟨.standard, .queued⟩).copies.p0 = some ⟨.standard, .queued⟩ := by decide +kernel

theorem witness_DataReadGivesAWord :
    (∀ cursor ∈ [0, 1, 2], (reading cursor).win.resetApplied = false ∧
      (reading cursor).win.engine = .readPhase cursor ∧
      (reading cursor).outs.p0.departing = some ⟨5, .standard, 0, false⟩ ∧
      (reading cursor).desc 5 = some (stored (header 240 5) [9] .p0 ⟨.standard, .departing⟩)) ∧
    ready.win.engine = .idle ∧ applied.win.resetApplied = true := by decide +kernel

theorem witness_SkipReleasesACopy :
    (HostReady ready ∧ ready.outs.p0.express = [] ∧ ready.outs.p0.standard = []) ∧
    (HostReady (hostCopy 5) ∧ (hostCopy 5).outs.p0.takeNext = some (5, .standard, Output.reset) ∧
      (hostCopy 5).desc 5 = some (stored (header 240 5) [9] .p0 ⟨.standard, .queued⟩)) := by decide +kernel

theorem witness_TableWriteTestsAndEffect :
    (HostReady (withParams ready 256 1 1 0) ∧ HostReady (withParams ready 247 1 1 0) ∧
      HostReady (withParams ready 239 1 1 0) ∧ HostReady (withParams ready 248 1 1 0)) ∧
    (let count (w : Word) := ((List.range 7).filter fun i => w.getLsbD i).length
     count 0 = 0 ∧ count 3 ≠ 1 ∧ count 64 = 1 ∧ (64 : Word).toNat < 128 ∧ 128 ≤ (128 : Word).toNat) := by
  decide +kernel

theorem witness_ReadingCommands :
    (HostReady (withParams ready 255 0 0 0) ∧ HostReady (withParams ready 256 0 0 0) ∧
      HostReady (withParams ready 6 4 0 0) ∧ HostReady (withParams ready 0 4 0 0) ∧
      HostReady (withParams ready 7 0 0 0)) ∧ (6 : Word).toNat = Port.p6.num ∧ Port.p6.link? = some .l6 := by
  decide +kernel

theorem witness_EnableAndRestart :
    (HostReady (withParams ready 2 1 0 0) ∧ HostReady (withParams (withLink ready .l2 .listen) 2 3 0 0) ∧
      HostReady (withParams (withLink ready .l2 .sync) 2 3 0 0) ∧ HostReady (withParams l2Run 2 3 0 0) ∧
      HostReady (withParams (faulted .stopped) 2 1 0 0) ∧ HostReady (withParams (faulted (.running 100)) 2 1 0 0)) ∧
    (withParams ready 2 1 0 0).win.params.w0.toNat = LinkId.l2.num ∧
    HostReady (withParams ready 0 1 0 0) ∧ HostReady (withParams ready 6 4 0 0) := by decide +kernel

theorem witness_DisableClosesALink :
    HostReady (withParams (departing (header 1 124) 1 0 false) 4 2 0 0) ∧
    ((withParams (departing (header 1 124) 1 0 false) 4 2 0 0).win.params.w0.toNat = LinkId.l4.num ∧
      (withParams (departing (header 1 124) 1 0 false) 4 2 0 0).win.params.w1 = 2) ∧
    HostReady (withParams (l2Stores 4 5 [17]) 2 2 0 0) ∧
    ((withParams (departing (header 1 124) 1 0 false) 4 2 0 0).links.get .l4).state ≠ .disabled ∧
    (HostReady (withParams ready 4 2 0 0) ∧ (withParams ready 4 2 0 0).win.params.w1 = 2 ∧
      ((withParams ready 4 2 0 0).links.get .l4).state = .disabled) := by decide +kernel

theorem witness_PortConfigSetsThePort :
    HostReady (withParams ready 7 0 0 0) ∧ HostReady (withParams ready 0 15 0 0) ∧
    HostReady (withParams ready 0 0 0 0x0010#16) ∧ HostReady (withParams ready 6 15 0xFFFF#16 0x0033#16) ∧
    (4 ≤ ((0x0040#16 : Word).extractLsb' 4 3).toNat ∧ ((0x0030#16 : Word).extractLsb' 4 3).toNat ≤ 3) := by
  decide +kernel

theorem witness_PortFlushReleasesTheCopies :
    HostReady (withParams ready 7 0 0 0) ∧ HostReady (withParams (hostCopy 5) 0 0 0 0) ∧
    (HostReady (withParams (departing (header 1 124) 0 0 true) 4 0 0 0) ∧
      (departing (header 1 124) 0 0 true).outs.p4.departing = some ⟨5, .standard, 0, true⟩) := by decide +kernel

theorem witness_SetPoolChangesOneSetting :
    (HostReady (withParams l2Run 0 0 0 0) ∧ (l2Run.links.get .l2).state ≠ .disabled) ∧
    (∀ w ∈ [(⟨3, 0, 0, 0⟩ : Words4), ⟨0, 0, 256, 0⟩, ⟨1, 6, 16, 0⟩, ⟨2, 0, 16, 0⟩, ⟨2, 6, 512, 0⟩],
      HostReady (withParams ready w.w0 w.w1 w.w2 w.w3)) ∧
    (∀ p ∈ LinkId.all, (ready.links.get p).state = .disabled) ∧
    (ready.setHeld .p0 17).pool.held.p0 > 16 := by decide +kernel

theorem witness_ClearCountersClearsAll : HostReady ready := by decide +kernel

theorem witness_TakeRecordReturnsTheOldest :
    (HostReady ready ∧ ready.records.list = []) ∧
    (HostReady (withRecords ready [someRecord]) ∧ (withRecords ready [someRecord]).records.list = someRecord :: []) ∧
    codeValue .linkFault ≤ 12 := by decide +kernel

theorem witness_ClearSwitchAndItsEnd :
    (HostReady l2Run ∧ (l2Run.links.get .l2).state ≠ .disabled) ∧
    (HostReady (hostCopy 5) ∧ ∀ p ∈ LinkId.all, ((hostCopy 5).links.get p).state = .disabled) ∧
    (ready.setEngine (.executingClear 7)).win.engine = .executingClear 7 ∧ ready.win.engine = .idle := by
  decide +kernel

/-- Every symbol sent holds an odd number of ones, so no character's symbol is zero. -/
theorem symbol_ne_zero (c : LinkChar) : c.symbol ≠ 0 := by
  have h : ∀ x : BitVec 9, parityBit x ++ x ≠ 0 := by decide +kernel
  exact h c.body

theorem witness_SymbolsRoundTrip :
    (∀ n, LinkChar.credit 16 = .credit n → 1 ≤ n ∧ n ≤ 16) ∧ decodeSymbol 0x383#10 = some (.credit 4) ∧
    decodeSymbol 0x37F#10 = none ∧
    (∀ c : LinkChar, (∀ n, c = .credit n → 1 ≤ n ∧ n ≤ 16) → c.symbol ≠ 0#10) ∧
    (ready.links.get .l1).line = none ∧
    ((ready.modLink .l1 fun l => { l with line := some .hello }).links.get .l1).line = some .hello :=
  ⟨fun n h => by cases h; decide, by decide, by decide, fun c _ => symbol_ne_zero c, by decide +kernel,
    by decide +kernel⟩

/-- Initialisation has ended, and a symbol time of L1 waits to be taken. -/
def started : State := { ready with pending := [.transmitCharacter .l1] }

theorem started_desc (d : DescId) : started.desc d = none := by
  have h : started.desc d = (Vector.replicate 192 (none : Option Descriptor))[d] := rfl
  rw [h]
  simp
theorem started_link (p : LinkId) : started.links.get p = LinkPort.reset := by cases p <;> rfl
theorem started_linkPool (p : LinkId) : started.pool.links.get p = ⟨[], 0, 0⟩ := by cases p <;> rfl
theorem started_out (p : Port) : started.outs.get p = Output.reset := by cases p <;> rfl
theorem started_linkOut (p : LinkId) : started.linkOuts.get p = LinkOutput.reset := by cases p <;> rfl
theorem started_held (p : Port) : started.pool.held.get p = 0 := by cases p <;> rfl

/-- Every statement about steps has a step to speak of. -/
theorem witness_step : ∃ t, step started = .next t := ⟨_, rfl⟩

theorem witness_StepKeepsMemoryRecordsAndTable :
    Memory.wf started.cells ∧ RecordLaws started ∧ TableLaws started := by
  refine ⟨by decide +kernel, ⟨by decide +kernel, by decide +kernel⟩, by decide +kernel, ?_, ?_⟩
  · intro n _
    have h : started.rotation[n] = (Vector.replicate 256 Port.p6)[n] := rfl
    rw [h]
    simp
  · have h : ∀ n ∈ List.finRange 256,
        (started.table[n].kind = .invalid ∧ started.table[n] = Entry.invalid) ∨
          (started.table[n].kind = .single ∧ (members started.table[n].ports).length = 1) ∨
          (started.table[n].kind = .fanout ∧ 1 ≤ (members started.table[n].ports).length) := by decide +kernel
    intro n
    rcases h n (List.mem_finRange n) with ⟨hk, h⟩ | ⟨hk, h⟩ | ⟨hk, h⟩ <;> rw [hk] <;> exact h

theorem witness_StepKeepsCreditLaws : CreditLaws started where
  reserveSplit p := by rw [started_linkPool]; rfl
  reserveBound p := by rw [started_linkPool]; exact Nat.zero_le _
  reserveAscending p := by rw [started_linkPool]; exact List.Pairwise.nil
  advanceRange p := by cases p <;> decide +kernel
  holdRange p := by cases p <;> decide +kernel
  floorRange := by decide +kernel
  linkHold p := by cases p <;> decide +kernel
  hostHold := by decide +kernel
  reserves p h := by rw [started_linkPool] at h; exact absurd rfl h
  txCredit p := by rw [started_link]; exact Nat.zero_le _

theorem witness_outputLaws : OutputLaws started where
  queueCap p := by rw [started_out]; exact ⟨Nat.zero_le _, Nat.zero_le _⟩
  yieldRun p := by rw [started_out]; decide
  departingInRun p h := by rw [started_out] at h; exact absurd rfl h
  openInRun p := by rw [started_linkOut, started_link]; decide
  closedWhenDisabled p _ := by rw [started_linkOut]; rfl
  closedEmpty p _ := by rw [started_out]; exact ⟨rfl, rfl⟩
  holdTimer p := by rw [started_linkOut]; decide
  stallTimer p h := by rw [started_linkOut] at h; exact absurd rfl h
  applied h := by cases h
  hostSlot := ⟨fun h => absurd rfl h, fun ⟨_, h⟩ => by cases h⟩

theorem witness_StepKeepsOutputAndTimerLaws : OutputLaws started ∧ TimerLaws started where
  left := witness_outputLaws
  right := {
    silence := fun p => by rw [started_link]; decide
    sync := fun p => by rw [started_link]; decide
    recovery := fun p h => by rw [started_link] at h; exact absurd rfl h
    restart := fun p h => by rw [started_link] at h; cases h }

theorem witness_StepKeepsCellsInPlace : CellsInPlace started where
  places := by
    have hc : (List.finRange 192).flatMap started.chainOf = [] := by
      rw [List.flatMap_eq_nil_iff]
      intro d _
      simp [State.chainOf, started_desc]
    have hr : started.pool.links.toList.flatMap (fun q => q.reserve) = [] := rfl
    have hf : started.pool.freeList = Pool.reset.freeList := rfl
    rw [State.cellPlaces, hc, hr, hf, List.append_nil, List.append_nil, Pool.reset]
  storing p f d h := by rw [started_link] at h; cases h
  sending d h := by cases h
  noCopies d x h := by rw [started_desc] at h; cases h
  inFrame p h := by rw [started_link] at h; exact absurd rfl h
  reserves p h := by rw [started_linkPool] at h; exact absurd rfl h
  heldCounts p := by
    rw [started_held, State.chainCells]
    symm
    refine List.sum_eq_zero fun n hn => ?_
    obtain ⟨d, -, rfl⟩ := List.mem_map.1 hn
    rw [started_desc]

theorem witness_StepKeepsCopyLaws : CopyLaws started ∧ CellsInPlace started ∧ OutputLaws started where
  left := {
    once := fun p => by rw [State.owedAt, started_out]; exact List.nodup_nil
    queued := fun p cls d h => by rw [started_out] at h; cases cls <;> cases h
    departing := fun p dep h => by rw [started_out] at h; cases h
    owed := fun p d x c h => by rw [started_desc] at h; cases h
    storedOwes := fun d x h => by rw [started_desc] at h; cases h
    assembling := fun d x h => by rw [started_desc] at h; cases h
    hopZero := fun d x h p hd => by rw [started_desc] at hd; cases hd }
  right := ⟨witness_StepKeepsCellsInPlace, witness_outputLaws⟩

end Sys2Proof.Tests
end

section
/-! PROOFS. What a DATA character and the end of a frame do to the frame in progress on a link in RUN
(sections 1.2, 1.6 and 1.7 of the manual): first the operations they are made of, then the four statements. -/

namespace Sys2Proof.Machine

-- As in the tests: each elaboration thread takes 1 GiB of the check's memory limit, so the proofs run one after another.
set_option Elab.async false

/-! ## The link port and the operations that leave it alone -/

/-- The silence timer started again is one write of the link port. -/
theorem State.restartSilence_eq_setLink (s : State) (p : LinkId) :
    s.restartSilence p = s.setLink p ((s.links.get p).heard (s.links.get p).rx) := rfl

@[simp] theorem State.modLink_setLink (s : State) (p : LinkId) (l : LinkPort) (g : LinkPort → LinkPort) :
    (s.setLink p l).modLink p g = s.setLink p (g l) := by
  simp [State.modLink, State.setLink]

@[simp] theorem State.setLink_modLink (s : State) (p : LinkId) (g : LinkPort → LinkPort) (l : LinkPort) :
    (s.modLink p g).setLink p l = s.setLink p l := by
  simp [State.modLink, State.setLink]

/-- The frame state written after the silence timer is one write of the link port. -/
theorem State.setRx_setLink_heard (s : State) (p : LinkId) (l : LinkPort) (rx rx' : Option RxFrame) :
    (s.setLink p (l.heard rx)).setRx p rx' = s.setLink p (l.heard rx') :=
  s.modLink_setLink p (l.heard rx) _

theorem State.setRx_restartSilence (s : State) (p : LinkId) (rx : Option RxFrame) :
    (s.restartSilence p).setRx p rx = s.setLink p ((s.links.get p).heard rx) :=
  s.setRx_setLink_heard p _ _ rx

theorem State.writeFrameByte_setLink (s : State) (p : LinkId) (l : LinkPort) (chain : List CellId) (k : Nat)
    (b : Byte) :
    (s.setLink p l).writeFrameByte chain k b = (s.writeFrameByte chain k b).setLink p l := by
  unfold State.writeFrameByte
  cases chainAddr? chain k <;> rfl

theorem State.freeDesc_setLink (s : State) (p : LinkId) (l : LinkPort) (d : DescId) :
    (s.setLink p l).freeDesc d = (s.freeDesc d).setLink p l := by
  unfold State.freeDesc
  rw [show (s.setLink p l).desc d = s.desc d from rfl]
  cases s.desc d <;> rfl

/-! ## Faults and the silence timer -/

theorem State.loseFrame_restartSilence (s : State) (p : LinkId) :
    (s.restartSilence p).loseFrame p = (s.loseFrame p).restartSilence p := by
  unfold State.loseFrame
  rw [show ((s.restartSilence p).links.get p).rx = (s.links.get p).rx by simp]
  cases (s.links.get p).rx with
  | none => rfl
  | some f =>
    cases hd : f.disposition <;>
      simp [hd, State.restartSilence_eq_setLink, State.freeDesc_setLink, LinkPort.heard]

/-- Entry to FAULTED stops the silence timer, so it does not matter that the character started it. -/
theorem State.enterFaulted_restartSilence (s : State) (p : LinkId) (kind : FaultKind)
    (lost : Option (Option Header)) :
    (s.restartSilence p).enterFaulted p kind lost = s.enterFaulted p kind lost := by
  have hstate : ((s.restartSilence p).links.get p).state = (s.links.get p).state := by simp
  have hreserve : ((s.loseFrame p).restartSilence p).returnReserve p =
      ((s.loseFrame p).returnReserve p).restartSilence p := rfl
  unfold State.enterFaulted
  simp only [hstate, State.loseFrame_restartSilence, State.restartSilence_outs, hreserve]
  simp only [State.restartSilence_eq_setLink _ p, State.modLink_setLink]
  rfl

theorem State.fault_restartSilence (s : State) (p : LinkId) (kind : FaultKind) :
    (s.restartSilence p).fault p kind = s.fault p kind := by
  have hrx : ((s.restartSilence p).links.get p).rx = (s.links.get p).rx := by simp
  unfold State.fault
  rw [hrx, State.enterFaulted_restartSilence]

/-! ## Storing the byte of a frame in progress -/

/-- A stored byte changes the bytes of the cells at its own address alone. -/
theorem State.storesOnly_writeFrameByte (s : State) (chain : List CellId) (k : Nat) (b : Byte)
    (hw : Memory.wf s.cells) : StoresOnly s (s.writeFrameByte chain k b) (chainAddr? chain k) b := by
  intro a
  rcases s.writeFrameByte_cases chain k b with ⟨hk, h⟩ | ⟨c, hk, h⟩
  · simp [hk, h]
  · rw [hk, h]
    by_cases hca : c = a
    · subst hca
      simp [Memory.read_write_self c b hw]
    · simp [hca, Memory.read_write_ne b (Ne.symm hca)]

/-- The byte of a frame in progress stored at the frame's position when the frame is STORING (R3): the part that
`State.headerData` and `State.bodyData` share. -/
def State.storeByte (s : State) (f : RxFrame) (b : Byte) : State :=
  match f.disposition with
  | .storing d => s.writeFrameByte (s.chainOf d) f.position b
  | .sinkingNoDescriptor | .sinkingSurplus => s

theorem State.storeByte_setLink (s : State) (p : LinkId) (l : LinkPort) (f : RxFrame) (b : Byte) :
    (s.setLink p l).storeByte f b = (s.storeByte f b).setLink p l := by
  unfold State.storeByte
  cases f.disposition with
  | storing d => exact s.writeFrameByte_setLink p l (s.chainOf d) f.position b
  | sinkingNoDescriptor => rfl
  | sinkingSurplus => rfl

/-- Storing the byte touches the bytes of the cells alone. -/
theorem State.storeByte_frame (s : State) (f : RxFrame) (b : Byte) :
    s.storeByte f b = { s with cells := (s.storeByte f b).cells } := by
  unfold State.storeByte
  cases f.disposition with
  | storing d => exact s.writeFrameByte_frame (s.chainOf d) f.position b
  | sinkingNoDescriptor => rfl
  | sinkingSurplus => rfl

theorem State.desc_storeByte (s : State) (f : RxFrame) (b : Byte) (d : DescId) :
    (s.storeByte f b).desc d = s.desc d :=
  congrArg (fun t => t.desc d) (s.storeByte_frame f b)

theorem State.storesOnly_storeByte (s : State) (f : RxFrame) (b : Byte) (hw : Memory.wf s.cells) :
    StoresOnly s (s.storeByte f b) (s.storedAt f) b := by
  unfold State.storeByte State.storedAt
  cases f.disposition with
  | storing d => exact s.storesOnly_writeFrameByte (s.chainOf d) f.position b hw
  | sinkingNoDescriptor => intro a; simp
  | sinkingSurplus => intro a; simp

/-! ## The header of a frame in progress -/

/-- The header entered in the descriptor of a STORING frame (R11): the part of `State.headerData` at position 3. -/
def State.giveHeader (s : State) (f : RxFrame) (h : Header) : State :=
  match f.disposition with
  | .storing d => match s.desc d with
    | some x => s.setDesc d (some { x with header := some h })
    | none => s
  | .sinkingNoDescriptor | .sinkingSurplus => s

theorem State.giveHeader_setLink (s : State) (p : LinkId) (l : LinkPort) (f : RxFrame) (h : Header) :
    (s.setLink p l).giveHeader f h = (s.giveHeader f h).setLink p l := by
  unfold State.giveHeader
  cases f.disposition with
  | storing d =>
    simp only [show (s.setLink p l).desc d = s.desc d from rfl]
    cases s.desc d <;> rfl
  | sinkingNoDescriptor => rfl
  | sinkingSurplus => rfl

/-- Entering the header touches the descriptors alone. -/
theorem State.giveHeader_frame (s : State) (f : RxFrame) (h : Header) :
    s.giveHeader f h = { s with descs := (s.giveHeader f h).descs } := by
  unfold State.giveHeader
  cases f.disposition with
  | storing d =>
    simp only
    cases s.desc d <;> rfl
  | sinkingNoDescriptor => rfl
  | sinkingSurplus => rfl

theorem State.giveHeader_cells (s : State) (f : RxFrame) (h : Header) : (s.giveHeader f h).cells = s.cells :=
  (congrArg State.cells (s.giveHeader_frame f h)).trans rfl

/-- The descriptor of a STORING frame has the header afterwards; every other descriptor stands. -/
theorem State.desc_giveHeader (s : State) (f : RxFrame) (h : Header) (d : DescId) :
    (s.giveHeader f h).desc d =
      if f.disposition = .storing d then (s.desc d).map fun x => { x with header := some h } else s.desc d := by
  unfold State.giveHeader
  cases f.disposition with
  | storing e =>
    by_cases hde : e = d
    · subst hde
      cases hx : s.desc e <;> simp [hx]
    · cases hx : s.desc e <;> simp [hx, hde, State.desc_setDesc_ne s _ (Ne.symm hde)]
  | sinkingNoDescriptor => simp
  | sinkingSurplus => simp

/-- The header of a descriptor does not move its chain. -/
theorem State.storedAt_giveHeader (s : State) (f : RxFrame) (h : Header) :
    (s.giveHeader f h).storedAt f = s.storedAt f := by
  unfold State.storedAt
  cases hd : f.disposition with
  | storing d =>
    have hchain : (s.giveHeader f h).chainOf d = s.chainOf d := by
      unfold State.chainOf
      rw [State.desc_giveHeader, if_pos hd]
      cases s.desc d <;> rfl
    simp only [hchain]
  | sinkingNoDescriptor => rfl
  | sinkingSurplus => rfl

/-- The byte stored after its header was entered goes where it would have gone before. -/
theorem State.storesOnly_giveHeader_storeByte (s : State) (f : RxFrame) (h : Header) (b : Byte)
    (hw : Memory.wf s.cells) : StoresOnly s ((s.giveHeader f h).storeByte f b) (s.storedAt f) b := by
  have hstored := (s.giveHeader f h).storesOnly_storeByte f b (s.giveHeader_cells f h ▸ hw)
  rw [State.storedAt_giveHeader] at hstored
  intro a
  rw [hstored a, State.giveHeader_cells]

/-! ## DATA with a frame in progress -/

/-- At positions 1 and 2 the byte is stored and joins the early header bytes. -/
theorem State.headerData_early (s : State) (p : LinkId) (f : RxFrame) (b : Byte) (h3 : f.position < 3) :
    s.headerData p f b = (s.storeByte f b).setRx p
      (some { f with position := f.position + 1, early := f.early ++ [b], crc := crcByte f.crc b }) :=
  if_pos h3

/-- At position 3 the four bytes make the header: its LENGTH is too great, or it becomes known and the byte is
stored. -/
theorem State.headerData_complete (s : State) (p : LinkId) (f : RxFrame) {b0 b1 b2 b : Byte}
    (h3 : f.position = 3) (he : f.early = [b0, b1, b2]) :
    s.headerData p f b =
      let h := headerOfBytes b0 b1 b2 b
      if 1016 < h.length.toNat then s.enterFaulted p .oversize (some (some h))
      else ((s.giveHeader f h).storeByte f b).setRx p
        (some { f with position := 4, early := [], header := some h, crc := crcByte f.crc b }) := by
  have hlt : ¬ f.position < 3 := by omega
  have hbytes : f.early ++ [b] = [b0, b1, b2, b] := by simp [he]
  have hnext : f.position + 1 = 4 := by omega
  unfold State.headerData
  simp only [if_neg hlt, hbytes, hnext]
  rfl

/-- The frame in progress after one more byte below the stored size. -/
def RxFrame.fed (f : RxFrame) (b : Byte) : RxFrame :=
  { f with position := f.position + 1, crc := crcByte f.crc b }

/-- Elsewhere than at a group start the byte is stored. -/
theorem State.bodyData_within (s : State) (p : LinkId) (f : RxFrame) (h : Header) (b : Byte)
    (hg : f.position % 64 ≠ 0) :
    s.bodyData p f h b = (s.storeByte f b).setRx p (some (f.fed b)) := by
  have hstart : ¬ isGroupStart f.position h.size = true := by simp [isGroupStart, Config.cellBytes, hg]
  exact if_neg hstart

theorem isGroupStart_of_mod {k n : Nat} (hk : k % 64 = 0) (hlt : k < n) : isGroupStart k n = true := by
  simp [isGroupStart, Config.cellBytes, hk, hlt]

/-- With no credit outstanding the pool refuses the group start (R26). -/
theorem State.takeReserveCell_of_no_credit {s : State} {p : LinkId}
    (ho : (s.pool.links.get p).outstanding = 0) : s.takeReserveCell p = none := by
  simp [State.takeReserveCell, ho]

/-- With credit outstanding the lowest reserve cell is taken (R24). -/
theorem State.takeReserveCell_of_credit {s : State} {p : LinkId} {o : Nat} {c : CellId} {rest : List CellId}
    (ho : (s.pool.links.get p).outstanding = o + 1) (hr : (s.pool.links.get p).reserve = c :: rest) :
    s.takeReserveCell p =
      some (c, s.setLinkPool p ⟨rest, o, (s.pool.links.get p).pendingCredit⟩) := by
  simp [State.takeReserveCell, ho, hr]

/-- A group start that the pool refuses is the fault RX_OVERRUN. -/
theorem State.bodyData_refused (s : State) (p : LinkId) (f : RxFrame) (h : Header) (b : Byte)
    (hg : f.position % 64 = 0) (hlt : f.position < h.size) (ho : (s.pool.links.get p).outstanding = 0) :
    s.bodyData p f h b = s.fault p .rxOverrun := by
  simp [State.bodyData, isGroupStart_of_mod hg hlt, State.takeReserveCell_of_no_credit ho]

/-- The reserve cell `c` of link `p` joined to the chain of descriptor `d`, and counted as held (R24, R25). -/
def State.joinCell (s : State) (p : LinkId) (q : LinkPool) (d : DescId) (x : Descriptor) (c : CellId) : State :=
  ((s.setLinkPool p q).setDesc d (some { x with chain := x.chain ++ [c] })).setHeld p.port
    (s.pool.held.get p.port + 1)

theorem State.chainOf_joinCell (s : State) (p : LinkId) (q : LinkPool) (d : DescId) (x : Descriptor)
    (c : CellId) : (s.joinCell p q d x c).chainOf d = x.chain ++ [c] := by
  have hd : (s.joinCell p q d x c).desc d = some { x with chain := x.chain ++ [c] } :=
    (s.setLinkPool p q).desc_setDesc_self d _
  simp [State.chainOf, hd]

/-- At a group start of a STORING frame the cell joins its chain, and the byte is the first in it. -/
theorem State.bodyData_joins (s : State) (p : LinkId) (f : RxFrame) (h : Header) (b : Byte)
    (hg : f.position % 64 = 0) (hlt : f.position < h.size) {o : Nat} {c : CellId} {rest : List CellId}
    (ho : (s.pool.links.get p).outstanding = o + 1) (hr : (s.pool.links.get p).reserve = c :: rest)
    {d : DescId} {x : Descriptor} (hd : f.disposition = .storing d) (hx : s.desc d = some x) :
    s.bodyData p f h b =
      ((s.joinCell p ⟨rest, o, (s.pool.links.get p).pendingCredit⟩ d x c).writeFrameByte (x.chain ++ [c])
        f.position b).setRx p (some (f.fed b)) := by
  have hx' : (s.setLinkPool p ⟨rest, o, (s.pool.links.get p).pendingCredit⟩).desc d = some x := hx
  rw [← s.chainOf_joinCell p ⟨rest, o, (s.pool.links.get p).pendingCredit⟩ d x c]
  simp only [State.bodyData, isGroupStart_of_mod hg hlt, State.takeReserveCell_of_credit ho hr, hd, hx', if_true,
    RxFrame.fed]
  rfl

/-- At a group start of a sunk frame the cell goes straight to the tail of the free list (R26). -/
theorem State.bodyData_sinks (s : State) (p : LinkId) (f : RxFrame) (h : Header) (b : Byte)
    (hg : f.position % 64 = 0) (hlt : f.position < h.size) {o : Nat} {c : CellId} {rest : List CellId}
    (ho : (s.pool.links.get p).outstanding = o + 1) (hr : (s.pool.links.get p).reserve = c :: rest)
    (hd : f.disposition = .sinkingNoDescriptor) :
    s.bodyData p f h b =
      ((s.setLinkPool p ⟨rest, o, (s.pool.links.get p).pendingCredit⟩).appendFree [c]).setRx p
        (some (f.fed b)) := by
  simp only [State.bodyData, isGroupStart_of_mod hg hlt, State.takeReserveCell_of_credit ho hr, hd, if_true,
    RxFrame.fed]

/-- Below the stored size the byte is one of the frame's own (R3). -/
theorem State.knownData_body (s : State) (p : LinkId) (f : RxFrame) (h : Header) (b : Byte)
    (hlt : f.position < h.size) : s.knownData p f h b = s.bodyData p f h b :=
  if_pos hlt

/-- At position S the byte is the high byte of the check received (R13). -/
theorem State.knownData_checkHigh (s : State) (p : LinkId) (f : RxFrame) (h : Header) (b : Byte)
    (hp : f.position = h.size) :
    s.knownData p f h b = s.setRx p (some { f with position := h.size + 1, received := b ++ 0#8 }) := by
  simp [State.knownData, hp]

/-- At position S+1 the byte is the low byte of the check received (R13). -/
theorem State.knownData_checkLow (s : State) (p : LinkId) (f : RxFrame) (h : Header) (b : Byte)
    (hp : f.position = h.size + 1) :
    s.knownData p f h b =
      s.setRx p (some { f with position := h.size + 2, received := f.received.extractLsb' 8 8 ++ b }) := by
  simp [State.knownData, hp]

/-- From position S+2 on the frame is discarded and the rest of it is surplus (R12). -/
theorem State.knownData_surplus (s : State) (p : LinkId) (f : RxFrame) (h : Header) (b : Byte)
    (hp : h.size + 2 ≤ f.position) :
    s.knownData p f h b =
      (s.discardAtReception p f .lengthMismatch).setRx p (some { f with disposition := .sinkingSurplus }) := by
  have h1 : ¬ f.position < h.size := by omega
  have h2 : ¬ f.position = h.size := by omega
  have h3 : ¬ f.position = h.size + 1 := by omega
  simp [State.knownData, h1, h2, h3]

/-! ## Discards at reception and the end of a frame -/

/-- What a discard at reception does to the descriptors and the pool: a STORING frame gives both back (R27). -/
def State.dropFrame (s : State) (f : RxFrame) : State :=
  match f.disposition with
  | .storing d => s.freeDesc d
  | .sinkingNoDescriptor | .sinkingSurplus => s

theorem State.dropFrame_setLink (s : State) (p : LinkId) (l : LinkPort) (f : RxFrame) :
    (s.setLink p l).dropFrame f = (s.dropFrame f).setLink p l := by
  unfold State.dropFrame
  cases f.disposition with
  | storing d => exact s.freeDesc_setLink p l d
  | sinkingNoDescriptor => rfl
  | sinkingSurplus => rfl

theorem State.dropFrame_counters (s : State) (f : RxFrame) : (s.dropFrame f).counters = s.counters := by
  unfold State.dropFrame
  cases f.disposition <;> simp

theorem State.dropFrame_records (s : State) (f : RxFrame) : (s.dropFrame f).records = s.records := by
  unfold State.dropFrame
  cases f.disposition <;> simp

theorem State.dropFrame_links (s : State) (f : RxFrame) : (s.dropFrame f).links = s.links := by
  unfold State.dropFrame
  cases f.disposition <;> simp

/-- A discard at reception in full: the frame is dropped, counted and recorded (R169, R170, R175). -/
theorem State.discardAtReception_eq (s : State) (p : LinkId) (f : RxFrame) (cause : Code) :
    s.discardAtReception p f cause = { s.dropFrame f with
      counters := s.counters.set p.port { s.counters.get p.port with
        discardsIn := satAdd (s.counters.get p.port).discardsIn 1 }
      records := s.records.append (frameRecord cause p.port none f.header) } := by
  rw [← s.dropFrame_counters f, ← s.dropFrame_records f]
  rfl

theorem State.discardAtReception_links (s : State) (p : LinkId) (f : RxFrame) (cause : Code) :
    (s.discardAtReception p f cause).links = s.links := by
  rw [State.discardAtReception_eq, State.dropFrame_links]

theorem State.discardAtReception_setLink (s : State) (p : LinkId) (l : LinkPort) (f : RxFrame) (cause : Code) :
    (s.setLink p l).discardAtReception p f cause = (s.discardAtReception p f cause).setLink p l := by
  rw [State.discardAtReception_eq, State.discardAtReception_eq, State.dropFrame_setLink]
  rfl

/-- END_GOOD discards a STORING frame whose header never came as LENGTH_MISMATCH. -/
theorem State.endGoodInFrame_headerless (s : State) (p : LinkId) (f : RxFrame) {d : DescId}
    (hd : f.disposition = .storing d) (hh : f.header = none) :
    s.endGoodInFrame p f = (s.setRx p none).discardAtReception p f .lengthMismatch := by
  simp only [State.endGoodInFrame, hd, hh]

/-- END_GOOD of a STORING frame whose header is known: too short, check wrong, or complete (R13). -/
theorem State.endGoodInFrame_known (s : State) (p : LinkId) (f : RxFrame) {d : DescId} {h : Header}
    (hd : f.disposition = .storing d) (hh : f.header = some h) :
    s.endGoodInFrame p f =
      if f.position < h.size + 2 then (s.setRx p none).discardAtReception p f .lengthMismatch
      else if f.crc ≠ f.received then (s.setRx p none).discardAtReception p f .checkFail
      else ((s.setRx p none).resolve d p.port h).2 := by
  simp only [State.endGoodInFrame, hd, hh]

/-! ## The characters in RUN -/

/-- DATA in a frame whose header is still absent. -/
theorem exec_dataReceived_headerData {s : State} {p : LinkId} {f : RxFrame} (b : Byte)
    (hs : (s.links.get p).state = .run) (hrx : (s.links.get p).rx = some f) (hh : f.header = none)
    (hd : f.disposition ≠ .sinkingSurplus) :
    exec (.dataReceived p b) s = .next ((s.restartSilence p).headerData p f b) := by
  cases hdisp : f.disposition with
  | sinkingSurplus => exact absurd hdisp hd
  | storing d => simp [exec, execDataReceived, hs, State.dataInRun, hrx, hdisp, hh]
  | sinkingNoDescriptor => simp [exec, execDataReceived, hs, State.dataInRun, hrx, hdisp, hh]

/-- DATA in a frame whose header is known. -/
theorem exec_dataReceived_knownData {s : State} {p : LinkId} {f : RxFrame} {h : Header} (b : Byte)
    (hs : (s.links.get p).state = .run) (hrx : (s.links.get p).rx = some f) (hh : f.header = some h)
    (hd : f.disposition ≠ .sinkingSurplus) :
    exec (.dataReceived p b) s = .next ((s.restartSilence p).knownData p f h b) := by
  cases hdisp : f.disposition with
  | sinkingSurplus => exact absurd hdisp hd
  | storing d => simp [exec, execDataReceived, hs, State.dataInRun, hrx, hdisp, hh]
  | sinkingNoDescriptor => simp [exec, execDataReceived, hs, State.dataInRun, hrx, hdisp, hh]

/-- DATA in surplus starts the silence timer and is dropped. -/
theorem exec_dataReceived_surplus {s : State} {p : LinkId} {f : RxFrame} (b : Byte)
    (hs : (s.links.get p).state = .run) (hrx : (s.links.get p).rx = some f)
    (hd : f.disposition = .sinkingSurplus) :
    exec (.dataReceived p b) s = .next (s.restartSilence p) := by
  simp [exec, execDataReceived, hs, State.dataInRun, hrx, hd]

theorem exec_endGoodReceived_inFrame {s : State} {p : LinkId} {f : RxFrame}
    (hs : (s.links.get p).state = .run) (hrx : (s.links.get p).rx = some f) :
    exec (.endGoodReceived p) s = .next ((s.restartSilence p).endGoodInFrame p f) := by
  simp only [exec, execEndGoodReceived, hs, hrx]

theorem exec_endCutReceived_inFrame {s : State} {p : LinkId} {f : RxFrame}
    (hs : (s.links.get p).state = .run) (hrx : (s.links.get p).rx = some f) :
    exec (.endCutReceived p) s = .next ((s.restartSilence p).endCutInFrame p f) := by
  simp only [exec, execEndCutReceived, hs, hrx]

/-! ## The state after the byte and the link port are written -/

/-- A byte stored and a link port written touch these two alone. -/
theorem State.writeFrameByte_setLink_frame (s : State) (chain : List CellId) (k : Nat) (b : Byte) (p : LinkId)
    (l : LinkPort) :
    (s.writeFrameByte chain k b).setLink p l =
      { s with cells := ((s.writeFrameByte chain k b).setLink p l).cells, links := s.links.set p l } :=
  congrArg (fun t => t.setLink p l) (s.writeFrameByte_frame chain k b)

theorem State.storeByte_setLink_frame (s : State) (f : RxFrame) (b : Byte) (p : LinkId) (l : LinkPort) :
    (s.storeByte f b).setLink p l =
      { s with cells := ((s.storeByte f b).setLink p l).cells, links := s.links.set p l } :=
  congrArg (fun t => t.setLink p l) (s.storeByte_frame f b)

/-- A header entered, a byte stored and a link port written touch these three alone. -/
theorem State.giveHeader_storeByte_setLink_frame (s : State) (f : RxFrame) (h : Header) (b : Byte) (p : LinkId)
    (l : LinkPort) :
    let t := ((s.giveHeader f h).storeByte f b).setLink p l
    t = { s with cells := t.cells, descs := t.descs, links := s.links.set p l } := by
  intro t
  have hdescs : t.descs = (s.giveHeader f h).descs :=
    (congrArg State.descs ((s.giveHeader f h).storeByte_frame f b)).trans rfl
  calc t = { s.giveHeader f h with cells := t.cells, links := (s.giveHeader f h).links.set p l } :=
        State.storeByte_setLink_frame _ f b p l
    _ = { s with cells := t.cells, descs := (s.giveHeader f h).descs, links := s.links.set p l } :=
        congrArg (fun u : State => { u with cells := t.cells, links := u.links.set p l }) (s.giveHeader_frame f h)
    _ = { s with cells := t.cells, descs := t.descs, links := s.links.set p l } := by rw [hdescs]

/-- The character's write of the link port commutes with the storing of its byte. -/
theorem State.storeByte_setRx_heard (s : State) (p : LinkId) (l : LinkPort) (rx rx' : Option RxFrame)
    (f : RxFrame) (b : Byte) :
    ((s.setLink p (l.heard rx)).storeByte f b).setRx p rx' = (s.storeByte f b).setLink p (l.heard rx') := by
  rw [State.storeByte_setLink, State.setRx_setLink_heard]

theorem State.writeFrameByte_setRx_heard (s : State) (p : LinkId) (l : LinkPort) (rx rx' : Option RxFrame)
    (chain : List CellId) (k : Nat) (b : Byte) :
    ((s.setLink p (l.heard rx)).writeFrameByte chain k b).setRx p rx' =
      (s.writeFrameByte chain k b).setLink p (l.heard rx') := by
  rw [State.writeFrameByte_setLink, State.setRx_setLink_heard]

theorem State.joinCell_setLink (s : State) (r : LinkId) (l : LinkPort) (p : LinkId) (q : LinkPool) (d : DescId)
    (x : Descriptor) (c : CellId) : (s.setLink r l).joinCell p q d x c = (s.joinCell p q d x c).setLink r l := rfl

/-! ## The statements -/

/-- Settles O26, by the position of the byte: 1 and 2, or 3 with the LENGTH too great or legal. -/
theorem dataCompletesTheHeader : Obligations.DataCompletesTheHeader := by
  intro s p b f l hs hrx hh hd hw
  have hexec := exec_dataReceived_headerData b hs hrx hh hd
  refine ⟨fun h3 => ?early, fun b0 b1 b2 h3 he => ⟨fun hlen => ?oversize, fun hlen _ => ?known⟩⟩
  case early =>
    rw [State.headerData_early _ p f b h3, State.restartSilence_eq_setLink, State.storeByte_setRx_heard] at hexec
    exact ⟨_, hexec, s.storeByte_setLink_frame f b p _, s.storesOnly_storeByte f b hw⟩
  case oversize =>
    rw [State.headerData_complete _ p f h3 he] at hexec
    exact hexec.trans (congrArg _ ((if_pos hlen).trans (s.enterFaulted_restartSilence p _ _)))
  case known =>
    have hlegal : ¬ 1016 < (headerOfBytes b0 b1 b2 b).length.toNat := Nat.not_lt.2 hlen
    simp only [State.headerData_complete _ p f h3 he, if_neg hlegal, State.restartSilence_eq_setLink,
      State.giveHeader_setLink, State.storeByte_setRx_heard] at hexec
    refine ⟨_, hexec, s.giveHeader_storeByte_setLink_frame f _ b p _, fun d => ?_,
      s.storesOnly_giveHeader_storeByte f _ b hw⟩
    exact (State.desc_storeByte _ f b d).trans (s.desc_giveHeader f _ d)

/-- Settles O27, by the position of the byte: within a cell, or at a group start that is refused, joins the chain
or is sunk. -/
theorem dataFillsTheFrame : Obligations.DataFillsTheFrame := by
  intro s p b f h l q received hs hrx hh hd hlt hw
  have hexec := exec_dataReceived_knownData b hs hrx hh hd
  rw [State.knownData_body _ p f h b hlt] at hexec
  refine ⟨fun hg => ?within, fun hg ho => ?refused,
    fun o c rest hg ho hr => ⟨fun d x hdisp hx => ?joins, fun hdisp => ?sinks⟩⟩
  case within =>
    rw [State.bodyData_within _ p f h b hg, State.restartSilence_eq_setLink, State.storeByte_setRx_heard] at hexec
    exact ⟨_, hexec, s.storeByte_setLink_frame f b p _, s.storesOnly_storeByte f b hw⟩
  case refused =>
    rw [(s.restartSilence p).bodyData_refused p f h b hg hlt ho, State.fault_restartSilence] at hexec
    exact hexec
  case joins =>
    rw [(s.restartSilence p).bodyData_joins p f h b hg hlt ho hr hdisp hx, State.restartSilence_eq_setLink,
      State.joinCell_setLink, State.writeFrameByte_setRx_heard] at hexec
    exact ⟨_, hexec, State.writeFrameByte_setLink_frame _ _ _ b p _, State.storesOnly_writeFrameByte _ _ _ b hw⟩
  case sinks =>
    rw [(s.restartSilence p).bodyData_sinks p f h b hg hlt ho hr hdisp, State.restartSilence_eq_setLink] at hexec
    exact hexec.trans (congrArg _ (State.setRx_setLink_heard ((s.setLinkPool p _).appendFree [c]) p _ _ _))

/-- Settles O28: the discard is the shared operation said in full, and the bytes beyond the stored ones go by
position. -/
theorem dataBeyondTheStoredBytes : Obligations.DataBeyondTheStoredBytes := by
  refine ⟨fun s p f cause => ?discard, fun s p b f => ?_⟩
  case discard =>
    exact s.discardAtReception_eq p f cause
  intro l u hs hrx
  refine ⟨fun hd => ?dropped, fun h hd hh => ?_⟩
  case dropped =>
    rw [exec_dataReceived_surplus b hs hrx hd, State.restartSilence_eq_setLink, hrx]
    rfl
  have hexec := exec_dataReceived_knownData b hs hrx hh hd
  refine ⟨fun hp => ?checkHigh, fun hp => ?checkLow, fun hp => ?surplus⟩
  case checkHigh =>
    rw [State.knownData_checkHigh _ p f h b hp, State.setRx_restartSilence] at hexec
    exact hexec
  case checkLow =>
    rw [State.knownData_checkLow _ p f h b hp, State.setRx_restartSilence] at hexec
    exact hexec
  case surplus =>
    rw [State.knownData_surplus _ p f h b hp, State.restartSilence_eq_setLink, State.discardAtReception_setLink,
      State.setRx_setLink_heard] at hexec
    have hlinks := s.discardAtReception_links p f .lengthMismatch
    rw [hexec, State.setLink, hlinks]

/-- Settles O29: in every case the silence timer and the frame state are written first, and the outcome is that of
the disposition, the header, the position and the check. -/
theorem endOfAFrameDecidesItsOutcome : Obligations.EndOfAFrameDecidesItsOutcome := by
  intro s p f l u hs hrx
  have hu : (s.restartSilence p).setRx p none = u := s.setRx_restartSilence p none
  have hgood := exec_endGoodReceived_inFrame hs hrx
  have hcut := exec_endCutReceived_inFrame hs hrx
  refine ⟨fun hd => ?surplus, fun hd => ?noDescriptor,
    fun d hd => ⟨?cut, fun hh => ?headerless, fun h hh => ?known⟩⟩
  case surplus =>
    rw [hgood, hcut]
    simp only [State.endGoodInFrame, State.endCutInFrame, hd, hu, and_self]
  case noDescriptor =>
    rw [hgood, hcut]
    simp only [State.endGoodInFrame, State.endCutInFrame, hd, hu, and_self]
  case cut =>
    rw [hcut]
    simp only [State.endCutInFrame, hd, hu]
  case headerless =>
    rw [hgood, State.endGoodInFrame_headerless _ p f hd hh, hu]
  case known =>
    rw [hgood, State.endGoodInFrame_known _ p f hd hh, hu]
    refine ⟨fun hshort => ?_, fun hlong hbad => ?_, fun hlong hok => ?_⟩
    · rw [if_pos (show f.position < h.size + 2 from hshort)]
    · rw [if_neg (show ¬ f.position < h.size + 2 from Nat.not_lt.2 hlong), if_pos hbad]
    · rw [if_neg (show ¬ f.position < h.size + 2 from Nat.not_lt.2 hlong), if_neg (not_not.2 hok)]

end Sys2Proof.Machine
end

section
/-! LAWS. What a step can do to the cells, the descriptors, the credit and the link ports, said once: every step is
a sequence of the moves below (chapter 2, sections 3.4 to 3.8, 6.2 to 6.8 of the manual). The laws of the pool are
then proved move by move. -/

namespace Sys2Proof.Machine

-- As in the tests: each elaboration thread takes 1 GiB of the check's memory limit, so the proofs run one after another.
set_option Elab.async false

/-! ## Owners of frames in assembly -/

/-- A port owns a descriptor: its receiver stores a frame there, or port 0's SEND in progress does (R35). -/
def State.Owns (s : State) (o : Port) (d : DescId) : Prop :=
  (∃ p f, o = LinkId.port p ∧ (s.links.get p).rx = some f ∧ f.disposition = .storing d) ∨
    (o = .p0 ∧ s.win.engine.sendDesc = some d)

theorem State.owns_of_rx {s : State} {p : LinkId} {f : RxFrame} {d : DescId} (hrx : (s.links.get p).rx = some f)
    (hd : f.disposition = .storing d) : s.Owns p.port d :=
  Or.inl ⟨p, f, rfl, hrx, hd⟩

theorem State.owns_of_send {s : State} {d : DescId} (he : s.win.engine.sendDesc = some d) : s.Owns .p0 d :=
  Or.inr ⟨rfl, he⟩

/-- Every port that owns a descriptor after a change owned it before. -/
def OwnersKept (s t : State) : Prop := ∀ o d, t.Owns o d → s.Owns o d

/-- As `OwnersKept`, and port `o` owns none any more. -/
def OwnersWithout (s t : State) (o : Port) : Prop := ∀ o' d, t.Owns o' d → s.Owns o' d ∧ o' ≠ o

theorem OwnersWithout.kept {s t : State} {o : Port} (h : OwnersWithout s t o) : OwnersKept s t :=
  fun o' d hd => (h o' d hd).1

/-- Owners after a write of one link port: those of the other ports, and the descriptor stored there now. -/
theorem State.owns_of_setLink {s t : State} {p : LinkId} {l : LinkPort} {o : Port} {d : DescId} (h : t.Owns o d)
    (hl : t.links = s.links.set p l) (he : t.win.engine = s.win.engine) :
    (s.Owns o d ∧ o ≠ p.port) ∨ (o = p.port ∧ ∃ f, l.rx = some f ∧ f.disposition = .storing d) := by
  obtain ⟨q, f, rfl, hq, hd⟩ | ⟨rfl, hsend⟩ := h
  · rw [hl, PerLink.get_set] at hq
    by_cases hqp : q = p
    · rw [if_pos hqp] at hq
      exact Or.inr ⟨congrArg _ hqp, f, hq, hd⟩
    · rw [if_neg hqp] at hq
      exact Or.inl ⟨State.owns_of_rx hq hd, fun h => hqp (LinkId.port_inj.1 h)⟩
  · exact Or.inl ⟨State.owns_of_send (he ▸ hsend), fun h => p.port_ne_p0 h.symm⟩

/-- What the link port stores now it stored before. -/
theorem ownersKept_of_setLink {s t : State} {p : LinkId} {l : LinkPort} (hl : t.links = s.links.set p l)
    (he : t.win.engine = s.win.engine)
    (hrx : ∀ f d, l.rx = some f → f.disposition = .storing d → s.Owns p.port d) : OwnersKept s t := by
  intro o d h
  obtain ⟨h, -⟩ | ⟨rfl, f, hf, hd⟩ := State.owns_of_setLink h hl he
  · exact h
  · exact hrx f d hf hd

/-- The link port stores no frame any more. -/
theorem ownersWithout_of_setLink {s t : State} {p : LinkId} {l : LinkPort} (hl : t.links = s.links.set p l)
    (he : t.win.engine = s.win.engine) (hrx : ∀ f d, l.rx = some f → f.disposition ≠ .storing d) :
    OwnersWithout s t p.port := by
  intro o d h
  obtain h | ⟨-, f, hf, hd⟩ := State.owns_of_setLink h hl he
  · exact h
  · exact absurd hd (hrx f d hf)

/-- Owners after the engine left the SEND in progress. -/
theorem ownersWithout_of_engine {s t : State} (hl : t.links = s.links) (he : t.win.engine.sendDesc = none) :
    OwnersWithout s t .p0 := by
  rintro o d (⟨q, f, rfl, hq, hd⟩ | ⟨-, hsend⟩)
  · exact ⟨State.owns_of_rx (hl ▸ hq) hd, q.port_ne_p0⟩
  · rw [he] at hsend
    cases hsend

/-- Owners after a change of the engine that begins no SEND. -/
theorem ownersKept_of_engine {s t : State} (hl : t.links = s.links)
    (he : ∀ d, t.win.engine.sendDesc = some d → s.win.engine.sendDesc = some d) : OwnersKept s t := by
  rintro o d (⟨q, f, rfl, hq, hd⟩ | ⟨rfl, hsend⟩)
  · exact State.owns_of_rx (hl ▸ hq) hd
  · exact State.owns_of_send (he d hsend)

/-! ## Link ports -/

/-- The links keep their states, no transmit credit rises above 64, and a frame is begun only in RUN. -/
structure LinksKept (s t : State) : Prop where
  state : ∀ p, (t.links.get p).state = (s.links.get p).state
  txCredit : ∀ p, (t.links.get p).txCredit ≤ max (s.links.get p).txCredit 64
  inFrame : ∀ p, (t.links.get p).rx ≠ none → (s.links.get p).rx ≠ none ∨ (s.links.get p).state = .run

theorem linksKept_of_eq {s t : State} (h : t.links = s.links) : LinksKept s t where
  state p := by rw [h]
  txCredit p := h ▸ le_max_left ..
  inFrame p hp := Or.inl (h ▸ hp)

theorem linksKept_of_setLink {s t : State} {p : LinkId} {l : LinkPort} (hl : t.links = s.links.set p l)
    (hs : l.state = (s.links.get p).state) (hc : l.txCredit ≤ max (s.links.get p).txCredit 64)
    (hrx : l.rx ≠ none → (s.links.get p).rx ≠ none ∨ (s.links.get p).state = .run) : LinksKept s t where
  state q := by
    rw [hl, PerLink.get_set]
    split
    · rename_i h; rw [h, hs]
    · rfl
  txCredit q := by
    rw [hl, PerLink.get_set]
    split
    · rename_i h; rw [h]; exact hc
    · exact le_max_left ..
  inFrame q := by
    rw [hl, PerLink.get_set]
    split
    · rename_i h; rw [h]; exact hrx
    · exact Or.inl

/-! ## Moves -/

/-- A descriptor that keeps its source, chain and state, and gets no first copy. -/
structure Descriptor.Keeps (x y : Descriptor) : Prop where
  source : y.source = x.source
  chain : y.chain = x.chain
  state : y.state = x.state
  copies : x.copies = PerPort.const none → y.copies = PerPort.const none

/-- Link `p` may enter state `new`: no reserve is left outside SYNC and RUN (R17). -/
def State.MayEnter (s : State) (p : LinkId) (new : LinkState) : Prop :=
  new = .sync ∨ new = .run ∨ (s.pool.links.get p).reserve = [] ∨
    ((s.links.get p).state ≠ .sync ∧ (s.links.get p).state ≠ .run)

/-- The pool after a group start: link `p`'s reserve without its lowest cell, and the credit spent (R24). -/
def State.startPool (s : State) (p : LinkId) (o : Nat) (rest : List CellId) : Pool :=
  (s.setLinkPool p ⟨rest, o, (s.pool.links.get p).pendingCredit⟩).pool

/-- One more cell counted as held (R19). -/
def Pool.holdOne (q : Pool) (p : Port) : Pool := { q with held := q.held.set p (q.held.get p + 1) }

/-- A frame in assembly from a source, with a chain and no copies. -/
structure Descriptor.Assembles (x : Descriptor) (source : Port) (chain : List CellId) : Prop where
  state : x.state = .assembling
  source : x.source = source
  chain : x.chain = chain
  copies : x.copies = PerPort.const none

/-- What one move does to the cells, the descriptors, the credit and the link ports. -/
inductive Move (s : State) : State → Prop
  /-- The pool and the descriptors stay. -/
  | keep {t : State} (links : LinksKept s t) (owners : OwnersKept s t) (pool : t.pool = s.pool)
      (descs : t.descs = s.descs) : Move s t
  /-- A descriptor takes a header or loses a copy, its chain unmoved. -/
  | edit {d : DescId} {x y : Descriptor} (old : s.desc d = some x) (new : x.Keeps y) :
      Move s (s.setDesc d (some y))
  /-- The last copy of a frame is released (R46). -/
  | release {d : DescId} {x : Descriptor} (old : s.desc d = some x) (copies : x.copies ≠ PerPort.const none) :
      Move s (s.freeDesc d)
  /-- A frame in assembly is dropped by its owner (R27). -/
  | drop {o : Port} {d : DescId} {t : State} (owner : s.Owns o d) (links : LinksKept s t)
      (owners : OwnersWithout s t o) (pool : t.pool = (s.freeDesc d).pool) (descs : t.descs = (s.freeDesc d).descs) :
      Move s t
  /-- A frame in assembly becomes STORED (R43). -/
  | store {o : Port} {d : DescId} {x y : Descriptor} {t : State} (owner : s.Owns o d) (old : s.desc d = some x)
      (source : y.source = x.source) (chain : y.chain = x.chain) (state : y.state = .stored)
      (links : LinksKept s t) (owners : OwnersWithout s t o) (pool : t.pool = s.pool)
      (descs : t.descs = (s.setDesc d (some y)).descs) : Move s t
  /-- A link enters a state with no frame in progress. -/
  | enter {p : LinkId} {l : LinkPort} (may : s.MayEnter p l.state) (rx : l.rx = none)
      (txCredit : l.txCredit ≤ max (s.links.get p).txCredit 64) : Move s (s.setLink p l)
  /-- A reserve is returned to the free list (R28). -/
  | giveBack (p : LinkId) : Move s (s.returnReserve p)
  /-- A refill (R21). -/
  | refill {p : LinkId} (eligible : s.refillable p = true) : Move s (s.refillLink p)
  /-- The pending credit of a link becomes outstanding (R18). -/
  | grant (p : LinkId) : Move s (s.setLinkPool p { s.pool.links.get p with
      outstanding := (s.pool.links.get p).outstanding + (s.pool.links.get p).pendingCredit, pendingCredit := 0 })
  /-- A group start at position 0: the cell becomes the chain of a FREE descriptor (R37). -/
  | claim {p : LinkId} {d : DescId} {c : CellId} {o : Nat} {rest : List CellId} {x : Descriptor} {t : State}
      (credit : (s.pool.links.get p).outstanding = o + 1) (reserve : (s.pool.links.get p).reserve = c :: rest)
      (old : s.desc d = none) (new : x.Assembles p.port [c]) (links : LinksKept s t)
      (owners : ∀ o' e, t.Owns o' e → s.Owns o' e ∨ (o' = p.port ∧ e = d))
      (pool : t.pool = (s.startPool p o rest).holdOne p.port)
      (descs : t.descs = (s.setDesc d (some x)).descs) : Move s t
  /-- A later group start: the cell joins the chain of the frame in progress (R25). -/
  | join {p : LinkId} {d : DescId} {c : CellId} {o : Nat} {rest : List CellId} {x : Descriptor} {t : State}
      (credit : (s.pool.links.get p).outstanding = o + 1) (reserve : (s.pool.links.get p).reserve = c :: rest)
      (owner : s.Owns p.port d) (old : s.desc d = some x) (links : LinksKept s t) (owners : OwnersKept s t)
      (pool : t.pool = (s.startPool p o rest).holdOne p.port)
      (descs : t.descs = (s.setDesc d (some { x with chain := x.chain ++ [c] })).descs) : Move s t
  /-- A group start of a sunk frame: the cell goes to the tail of the free list (R26). -/
  | sink {p : LinkId} {c : CellId} {o : Nat} {rest : List CellId} {t : State}
      (credit : (s.pool.links.get p).outstanding = o + 1) (reserve : (s.pool.links.get p).reserve = c :: rest)
      (links : LinksKept s t) (owners : OwnersKept s t)
      (pool : t.pool = { s.startPool p o rest with freeList := s.pool.freeList ++ [c] })
      (descs : t.descs = s.descs) : Move s t
  /-- SEND takes its cells from the head of the free list (R29, R144). -/
  | send {d : DescId} {k : Nat} {x : Descriptor} {t : State} (old : s.desc d = none)
      (new : x.Assembles .p0 (s.pool.freeList.take k)) (cells : k ≤ s.pool.freeList.length)
      (hold : s.pool.held.p0 + k ≤ s.pool.holdLimit.p0) (links : t.links = s.links)
      (owners : ∀ o e, t.Owns o e → s.Owns o e ∨ (o = .p0 ∧ e = d))
      (pool : t.pool = { s.pool with
        freeList := s.pool.freeList.drop k, held := s.pool.held.set .p0 (s.pool.held.p0 + k) })
      (descs : t.descs = (s.setDesc d (some x)).descs) : Move s t
  /-- One setting of the pool changes with every link DISABLED (R20, R156). -/
  | setting {q : Pool} (disabled : ∀ p, (s.links.get p).state = .disabled)
      (old : poolSetting s.pool s.win.taken = some q) : Move s { s with pool := q }
  /-- CLEAR_SWITCH with every link DISABLED and no SEND in progress (R33). -/
  | clear (disabled : ∀ p, (s.links.get p).state = .disabled) (engine : s.win.engine.sendDesc = none) :
      Move s s.clearTraffic
  /-- A hard reset, or a soft one that keeps the settings (R32, R138). -/
  | reset {t : State} (pool : t.pool = Pool.reset ∨ t.pool = { Pool.reset with
        floor := s.pool.floor, advance := s.pool.advance, holdLimit := s.pool.holdLimit })
      (descs : t.descs = State.reset.descs) (links : t.links = State.reset.links)
      (engine : t.win.engine = .initialising) : Move s t

/-- One move after another. -/
abbrev Moves : State → State → Prop := Relation.ReflTransGen Move

/-! ## Changes that keep the pool and the descriptors -/

/-- No cell, link port or engine takes part. -/
theorem moves_of_same {s t : State} (hp : t.pool = s.pool) (hd : t.descs = s.descs) (hl : t.links = s.links)
    (he : t.win.engine = s.win.engine) : Moves s t :=
  .single (.keep (linksKept_of_eq hl) (ownersKept_of_engine hl fun _ h => he ▸ h) hp hd)

/-- The engine changes, and begins no SEND. -/
theorem moves_of_engine {s t : State} (hp : t.pool = s.pool) (hd : t.descs = s.descs) (hl : t.links = s.links)
    (he : ∀ d, t.win.engine.sendDesc = some d → s.win.engine.sendDesc = some d) : Moves s t :=
  .single (.keep (linksKept_of_eq hl) (ownersKept_of_engine hl he) hp hd)

/-- The engine changes to a state with no SEND in progress. -/
theorem moves_of_no_send {s t : State} (hp : t.pool = s.pool) (hd : t.descs = s.descs) (hl : t.links = s.links)
    (he : t.win.engine.sendDesc = none) : Moves s t :=
  moves_of_engine hp hd hl fun d h => by rw [he] at h; cases h

/-- One link port changes, and neither its state nor its frame in progress. -/
theorem moves_modLink {s : State} {p : LinkId} {f : LinkPort → LinkPort}
    (hs : (f (s.links.get p)).state = (s.links.get p).state)
    (hc : (f (s.links.get p)).txCredit ≤ max (s.links.get p).txCredit 64)
    (hrx : (f (s.links.get p)).rx = (s.links.get p).rx) : Moves s (s.modLink p f) :=
  .single (.keep (linksKept_of_setLink rfl hs hc fun h => Or.inl (hrx ▸ h))
    (ownersKept_of_setLink rfl rfl fun _ _ h hd => State.owns_of_rx (hrx ▸ h) hd) rfl rfl)

theorem moves_putLine (s : State) (p : LinkId) (c : Option LinkChar) : Moves s (s.putLine p c) :=
  moves_modLink rfl (le_max_left ..) rfl

theorem moves_restartSilence (s : State) (p : LinkId) : Moves s (s.restartSilence p) :=
  moves_modLink rfl (le_max_left ..) rfl

/-- The frame in progress of a link in a frame, or of a link in RUN, is replaced by one that stores nowhere new. -/
theorem moves_setRx {s : State} {p : LinkId} {f : RxFrame}
    (hin : (s.links.get p).rx ≠ none ∨ (s.links.get p).state = .run)
    (hd : ∀ d, f.disposition = .storing d → s.Owns p.port d) : Moves s (s.setRx p (some f)) :=
  .single (.keep (linksKept_of_setLink rfl rfl (le_max_left ..) fun _ => hin)
    (ownersKept_of_setLink rfl rfl fun g d hg hgd => by cases hg; exact hd d hgd) rfl rfl)

theorem moves_setRx_none (s : State) (p : LinkId) : Moves s (s.setRx p none) :=
  .single (.keep (linksKept_of_setLink rfl rfl (le_max_left ..) fun h => absurd rfl h)
    (ownersKept_of_setLink rfl rfl fun _ _ h => by cases h) rfl rfl)

/-! ## Releases -/

theorem moves_releaseCopy (s : State) (p : Port) (d : DescId) : Moves s (s.releaseCopy p d) := by
  unfold State.releaseCopy
  cases hd : s.desc d with
  | none => exact .refl
  | some x =>
    cases hc : x.copies.get p with
    | none => simp only [hc]; exact .refl
    | some c =>
      have hcopies : x.copies ≠ PerPort.const none := fun h => by simp [h] at hc
      simp only [hc]
      split
      · exact .single (.release hd hcopies)
      · exact .single (.edit hd ⟨rfl, rfl, rfl, fun h => absurd h hcopies⟩)

theorem moves_markDeparting (s : State) (p : Port) (d : DescId) : Moves s (s.markDeparting p d) := by
  unfold State.markDeparting
  cases hd : s.desc d with
  | none => exact .refl
  | some x =>
    cases hc : x.copies.get p with
    | none => simp only [hc]; exact .refl
    | some c =>
      have hcopies : x.copies ≠ PerPort.const none := fun h => by simp [h] at hc
      simp only [hc]
      exact .single (.edit hd ⟨rfl, rfl, rfl, fun h => absurd h hcopies⟩)

theorem moves_releaseAll (s : State) (p : Port) (ds : List DescId) : Moves s (s.releaseAll p ds) := by
  induction ds generalizing s with
  | nil => exact .refl
  | cons d rest ih => exact (moves_releaseCopy s p d).trans (ih _)

theorem moves_setOut (s : State) (p : Port) (o : Output) : Moves s (s.setOut p o) :=
  moves_of_same rfl rfl rfl rfl

theorem moves_setLinkOut (s : State) (p : LinkId) (o : LinkOutput) : Moves s (s.setLinkOut p o) :=
  moves_of_same rfl rfl rfl rfl

theorem moves_setQueueState (s : State) (p : LinkId) (q : QueueState) (hold : Timer) :
    Moves s (s.setQueueState p q hold) :=
  moves_setLinkOut ..

theorem moves_countLost (s : State) (p : Port) (n : Nat) : Moves s (s.countLost p n) :=
  moves_of_same rfl rfl rfl rfl

theorem moves_record (s : State) (r : Record) : Moves s (s.record r) :=
  moves_of_same rfl rfl rfl rfl

theorem moves_purge (s : State) (p : Port) : Moves s (s.purge p) :=
  (moves_setOut ..).trans (moves_releaseAll ..)

theorem moves_purgeLost (s : State) (p : LinkId) : Moves s (s.purgeLost p) := by
  unfold State.purgeLost
  simp only
  split
  · exact moves_purge ..
  · exact ((moves_purge ..).trans (moves_countLost ..)).trans (moves_record ..)

theorem moves_dropDeparting (s : State) (p : LinkId) : Moves s (s.dropDeparting p) := by
  unfold State.dropDeparting
  cases (s.outs.get p.port).departing with
  | none => exact .refl
  | some dep =>
    have hslot : Moves s ((s.clearSlot p.port).stopStall p) := moves_of_same rfl rfl rfl rfl
    exact hslot.trans (moves_releaseCopy ..)

theorem moves_dropHostCopy (s : State) (dep : Departure) : Moves s (s.dropHostCopy dep) :=
  (moves_setOut ..).trans (moves_releaseCopy ..)

theorem moves_outputAtFault (s : State) (p : LinkId) : Moves s (s.outputAtFault p) := by
  have hcut : Moves s (match (s.outs.get p.port).departing with
      | none => s
      | some _ => (s.dropDeparting p).countLost p.port 1) := by
    cases (s.outs.get p.port).departing with
    | none => exact .refl
    | some dep => exact (moves_dropDeparting ..).trans (moves_countLost ..)
  unfold State.outputAtFault
  simp only
  split
  · exact (hcut.trans (moves_purgeLost ..)).trans (moves_setQueueState ..)
  · exact hcut.trans (moves_setQueueState ..)

end Sys2Proof.Machine
end

section
/-! LAWS. Every step is a sequence of the moves of the section before: first the shared operations, then the commands
arm by arm. -/

namespace Sys2Proof.Machine

set_option Elab.async false

/-! ## Frames lost and links left -/

/-- Freeing a descriptor reads the pool and the descriptors alone. -/
theorem State.freeDesc_congr {s u : State} (hp : u.pool = s.pool) (hd : u.descs = s.descs) (d : DescId) :
    (u.freeDesc d).pool = (s.freeDesc d).pool ∧ (u.freeDesc d).descs = (s.freeDesc d).descs := by
  have hdesc : u.desc d = s.desc d := congrArg (·[d]) hd
  unfold State.freeDesc
  rw [hdesc]
  cases s.desc d with
  | none => exact ⟨hp, hd⟩
  | some x => constructor <;> simp [hp, State.setDesc, hd]

/-- The frame in progress given up: its cells returned if it was STORING, and the link port replaced by one that
stores no frame (R27). -/
theorem moves_dropFrame {s : State} {p : LinkId} {f : RxFrame} {l : LinkPort} (hrx : (s.links.get p).rx = some f)
    (hs : l.state = (s.links.get p).state) (hc : l.txCredit = (s.links.get p).txCredit)
    (hl : ∀ g d, l.rx = some g → g.disposition ≠ .storing d) : Moves s ((s.dropFrame f).setLink p l) := by
  have hin : l.rx ≠ none → (s.links.get p).rx ≠ none ∨ (s.links.get p).state = .run :=
    fun _ => Or.inl (by simp [hrx])
  unfold State.dropFrame
  cases hd : f.disposition with
  | storing d =>
    have hlinks : ((s.freeDesc d).setLink p l).links = s.links.set p l := by simp
    exact .single (.drop (State.owns_of_rx hrx hd) (linksKept_of_setLink hlinks hs (hc ▸ le_max_left ..) hin)
      (ownersWithout_of_setLink hlinks (by simp) hl) rfl rfl)
  | sinkingNoDescriptor | sinkingSurplus =>
    have howners : OwnersWithout s (s.setLink p l) p.port := ownersWithout_of_setLink rfl rfl hl
    exact .single (.keep (linksKept_of_setLink rfl hs (hc ▸ le_max_left ..) hin) howners.kept rfl rfl)

theorem State.loseFrame_none {s : State} {p : LinkId} (hrx : (s.links.get p).rx = none) : s.loseFrame p = s := by
  simp only [State.loseFrame, hrx]

theorem State.loseFrame_some {s : State} {p : LinkId} {f : RxFrame} (hrx : (s.links.get p).rx = some f) :
    s.loseFrame p = (s.dropFrame f).setLink p { s.links.get p with rx := none } := by
  simp only [State.loseFrame, hrx, State.dropFrame]
  cases hd : f.disposition <;> simp [State.modLink]

theorem State.loseFrame_rx (s : State) (p : LinkId) : ((s.loseFrame p).links.get p).rx = none := by
  cases hrx : (s.links.get p).rx with
  | none => rw [State.loseFrame_none hrx, hrx]
  | some f => simp [State.loseFrame_some hrx]

theorem moves_loseFrame (s : State) (p : LinkId) : Moves s (s.loseFrame p) := by
  cases hrx : (s.links.get p).rx with
  | none =>
    rw [State.loseFrame_none hrx]
  | some f =>
    rw [State.loseFrame_some hrx]
    exact moves_dropFrame hrx rfl rfl fun _ _ h => by cases h

/-- A link leaves for a state with no frame in progress, no reserve and no transmit credit (R114, R119). -/
theorem moves_leave (s : State) (p : LinkId) (f : LinkPort → LinkPort) (hrx : ∀ l, (f l).rx = l.rx)
    (hc : ∀ l, (f l).txCredit = 0) : Moves s (((s.loseFrame p).returnReserve p).modLink p f) := by
  have hreserve : (((s.loseFrame p).returnReserve p).pool.links.get p).reserve = [] := by
    simp [State.returnReserve]
  have hnone : (((s.loseFrame p).returnReserve p).links.get p).rx = none := s.loseFrame_rx p
  refine ((moves_loseFrame s p).tail (.giveBack p)).tail (.enter (Or.inr (Or.inr (Or.inl hreserve))) ?_ ?_)
  · rw [hrx, hnone]
  · rw [hc]
    exact Nat.zero_le _

theorem moves_latchLinkChange (s : State) : Moves s s.latchLinkChange :=
  moves_of_same rfl rfl rfl rfl

theorem moves_countLinkFault (s : State) (p : LinkId) : Moves s (s.countLinkFault p) :=
  moves_of_same rfl rfl rfl rfl

theorem moves_enterFaulted (s : State) (p : LinkId) (kind : FaultKind) (lost : Option (Option Header)) :
    Moves s (s.enterFaulted p kind lost) := by
  have hrecord (c : Prop) [Decidable c] (u : State) (r : Record) : Moves u (if c then u else u.record r) := by
    split
    · exact .refl
    · exact moves_record ..
  have houtput (c : Bool) (u : State) : Moves u (if c then u.outputAtFault p else u) := by
    cases c
    · exact .refl
    · exact moves_outputAtFault ..
  unfold State.enterFaulted
  refine (((Relation.ReflTransGen.trans ?_ (hrecord ..)).trans (moves_countLinkFault _ p)).trans
    (moves_latchLinkChange _)).trans (houtput ..)
  exact moves_leave _ _ _ (fun _ => rfl) fun _ => rfl

theorem moves_fault (s : State) (p : LinkId) (kind : FaultKind) : Moves s (s.fault p kind) :=
  moves_enterFaulted ..

theorem moves_closeLink (s : State) (p : LinkId) : Moves s (s.closeLink p) := by
  have hlatch (c : Bool) (u : State) : Moves u (if c then u.latchLinkChange else u) := by
    cases c
    · exact .refl
    · exact moves_latchLinkChange _
  unfold State.closeLink
  refine (((((moves_leave s p _ ?_ ?_).trans (hlatch _ _)).trans (moves_dropDeparting ..)).trans
    (moves_purge ..)).trans (moves_countLost ..)).trans (moves_setQueueState ..)
  · exact fun _ => rfl
  · exact fun _ => rfl

theorem moves_disableLink (s : State) (p : LinkId) : Moves s (s.disableLink p) := by
  rcases s.disableLink_cases p with ⟨-, h⟩ | ⟨-, h⟩ <;> rw [h]
  exact moves_closeLink s p

/-! ## Links entered -/

theorem moves_enterListen {s : State} {p : LinkId}
    (h : (s.links.get p).state ≠ .sync ∧ (s.links.get p).state ≠ .run) : Moves s (s.enterListen p) :=
  .single (.enter (Or.inr (Or.inr (Or.inr h))) rfl (Nat.zero_le _))

theorem moves_enterSync (s : State) (p : LinkId) : Moves s (s.enterSync p) :=
  .single (.enter (Or.inl rfl) rfl (Nat.zero_le _))

theorem moves_enterRun {s : State} {p : LinkId} {n : Nat} (h : n ≤ max (s.links.get p).txCredit 64) :
    Moves s (s.enterRun p n) := by
  unfold State.enterRun
  refine (Relation.ReflTransGen.trans ?_ (moves_setQueueState ..)).trans (moves_latchLinkChange _)
  exact .single (.enter (Or.inr (Or.inl rfl)) rfl h)

theorem moves_enableLink (s : State) (p : LinkId) : Moves s (s.enableLink p) := by
  unfold State.enableLink
  cases hs : (s.links.get p).state with
  | disabled => exact moves_enterListen (by simp [hs])
  | listen | sync | run => exact .refl
  | faulted =>
    cases (s.links.get p).recoveryTimer with
    | running us => exact moves_modLink rfl (le_max_left ..) rfl
    | stopped => exact moves_enterListen (by simp [hs])

theorem moves_restartLink (s : State) (p : LinkId) : Moves s (s.restartLink p) := by
  unfold State.restartLink
  cases (s.links.get p).state with
  | disabled | listen => exact .refl
  | sync | run => exact moves_fault ..
  | faulted => exact moves_enableLink ..

/-! ## Route resolution -/

/-- A descriptor's frame becomes STORED, or no copy of it is made: its source and chain stand. -/
def State.Stores (s : State) (d : DescId) (t : State) : Prop :=
  t.descs = s.descs ∨ ∃ x y, s.desc d = some x ∧ y.source = x.source ∧ y.chain = x.chain ∧ y.state = .stored ∧
    t.descs = (s.setDesc d (some y)).descs

theorem State.placeCopy_eq (s : State) (d : DescId) (cls : Class) (p : Port) :
    s.placeCopy d cls p = match s.desc d with
      | none => s.setOut p ((s.outs.get p).append d cls)
      | some x => (s.setOut p ((s.outs.get p).append d cls)).setDesc d
          (some { x with state := .stored, copies := x.copies.set p (some ⟨cls, .queued⟩) }) := rfl

/-- Placing one copy changes the outputs and the descriptor, which becomes STORED with its source and chain. -/
theorem State.placeCopy_descs (s : State) (d : DescId) (cls : Class) (p : Port) :
    (s.desc d = none ∧ (s.placeCopy d cls p).descs = s.descs) ∨ ∃ x y, s.desc d = some x ∧ y.source = x.source ∧
      y.chain = x.chain ∧ y.state = .stored ∧ (s.placeCopy d cls p).descs = (s.setDesc d (some y)).descs := by
  rw [State.placeCopy_eq]
  cases hd : s.desc d with
  | none => exact Or.inl ⟨rfl, rfl⟩
  | some x =>
    exact Or.inr ⟨x, { x with state := .stored, copies := x.copies.set p (some ⟨cls, .queued⟩) },
      rfl, rfl, rfl, rfl, rfl⟩

theorem State.placeCopy_frame (s : State) (d : DescId) (cls : Class) (p : Port) :
    s.placeCopy d cls p =
      { s with outs := (s.placeCopy d cls p).outs, descs := (s.placeCopy d cls p).descs } := by
  rw [State.placeCopy_eq]
  cases s.desc d <;> rfl

theorem State.placeCopies_frame (s : State) (d : DescId) (cls : Class) (ps : List Port) :
    s.placeCopies d cls ps =
      { s with outs := (s.placeCopies d cls ps).outs, descs := (s.placeCopies d cls ps).descs } := by
  induction ps generalizing s with
  | nil => rfl
  | cons p rest ih =>
    rw [State.placeCopies, ih (s.placeCopy d cls p), s.placeCopy_frame d cls p]

@[simp] theorem State.placeCopies_pool (s : State) (d : DescId) (cls : Class) (ps : List Port) :
    (s.placeCopies d cls ps).pool = s.pool := (congrArg State.pool (s.placeCopies_frame d cls ps)).trans rfl
@[simp] theorem State.placeCopies_links (s : State) (d : DescId) (cls : Class) (ps : List Port) :
    (s.placeCopies d cls ps).links = s.links := (congrArg State.links (s.placeCopies_frame d cls ps)).trans rfl
@[simp] theorem State.placeCopies_win (s : State) (d : DescId) (cls : Class) (ps : List Port) :
    (s.placeCopies d cls ps).win = s.win := (congrArg State.win (s.placeCopies_frame d cls ps)).trans rfl

theorem State.placeCopies_descs (s : State) (d : DescId) (cls : Class) (ps : List Port) :
    s.Stores d (s.placeCopies d cls ps) := by
  induction ps generalizing s with
  | nil => exact Or.inl rfl
  | cons p rest ih =>
    rw [State.placeCopies]
    rcases s.placeCopy_descs d cls p with ⟨hnone, hone⟩ | ⟨x, y, hx, hs, hc, hst, hone⟩
    · rcases ih (s.placeCopy d cls p) with h | ⟨x', y', hx', -⟩
      · exact Or.inl (h.trans hone)
      · rw [show (s.placeCopy d cls p).desc d = s.desc d from congrArg (·[d]) hone, hnone] at hx'
        cases hx'
    · have hd : (s.placeCopy d cls p).desc d = some y :=
        (congrArg (·[d]) hone).trans (s.desc_setDesc_self d (some y))
      rcases ih (s.placeCopy d cls p) with h | ⟨x', y', hx', hs', hc', hst', h⟩
      · exact Or.inr ⟨x, y, hx, hs, hc, hst, h.trans hone⟩
      · cases hd.symm.trans hx'
        refine Or.inr ⟨x, y', hx, hs'.trans hs, hc'.trans hc, hst', h.trans ?_⟩
        simp [State.setDesc, hone]

theorem State.reportRefused_frame (s : State) (source : Port) (h : Header) (m : Port × Code) :
    s.reportRefused source h m = { s with
      counters := (s.reportRefused source h m).counters, records := (s.reportRefused source h m).records } := by
  unfold State.reportRefused
  simp only
  split <;> rfl

theorem State.reportAllRefused_frame (s : State) (source : Port) (h : Header) (ms : List (Port × Code)) :
    s.reportAllRefused source h ms = { s with
      counters := (s.reportAllRefused source h ms).counters
      records := (s.reportAllRefused source h ms).records } := by
  induction ms generalizing s with
  | nil => rfl
  | cons m rest ih =>
    rw [State.reportAllRefused, ih (s.reportRefused source h m), s.reportRefused_frame source h m]

@[simp] theorem State.reportAllRefused_pool (s : State) (source : Port) (h : Header) (ms : List (Port × Code)) :
    (s.reportAllRefused source h ms).pool = s.pool :=
  (congrArg State.pool (s.reportAllRefused_frame source h ms)).trans rfl
@[simp] theorem State.reportAllRefused_descs (s : State) (source : Port) (h : Header) (ms : List (Port × Code)) :
    (s.reportAllRefused source h ms).descs = s.descs :=
  (congrArg State.descs (s.reportAllRefused_frame source h ms)).trans rfl
@[simp] theorem State.reportAllRefused_links (s : State) (source : Port) (h : Header) (ms : List (Port × Code)) :
    (s.reportAllRefused source h ms).links = s.links :=
  (congrArg State.links (s.reportAllRefused_frame source h ms)).trans rfl
@[simp] theorem State.reportAllRefused_win (s : State) (source : Port) (h : Header) (ms : List (Port × Code)) :
    (s.reportAllRefused source h ms).win = s.win :=
  (congrArg State.win (s.reportAllRefused_frame source h ms)).trans rfl

/-- What a resolution does: the frame is freed, or its copies are placed; links and window stay. -/
theorem State.resolve_cases (s : State) (d : DescId) (o : Port) (h : Header) :
    ((s.resolve d o h).2.links = s.links ∧ (s.resolve d o h).2.win = s.win) ∧
      (((s.resolve d o h).2.pool = (s.freeDesc d).pool ∧ (s.resolve d o h).2.descs = (s.freeDesc d).descs) ∨
        ((s.resolve d o h).2.pool = s.pool ∧ s.Stores d (s.resolve d o h).2)) := by
  unfold State.resolve
  cases s.decideRoute o h with
  | discard cause =>
    have hfree := State.freeDesc_congr (s := s) (u := s.countFrameIn o) rfl rfl d
    simp only
    split <;> exact ⟨by simp, Or.inl (by simpa using hfree)⟩
  | place outputs refused pointer =>
    have hplaced := (s.countFrameIn o).placeCopies_descs d (copyClass (s.entry h.dest).rule h.cls) outputs
    have hstores (u : State)
        (hu : u.descs = ((s.countFrameIn o).placeCopies d (copyClass (s.entry h.dest).rule h.cls) outputs).descs) :
        s.Stores d u := by
      rw [State.Stores, hu]
      exact hplaced
    cases pointer <;> exact ⟨by simp, Or.inr ⟨by simp, hstores _ (by simp)⟩⟩

/-- A frame in assembly is resolved, and its owner gives it up in the same event (R58, R70). `u` is the state in
which the resolution is taken. -/
theorem moves_resolve {s u t : State} {o : Port} {d : DescId} {h : Header} (owner : s.Owns o d)
    (hp : u.pool = s.pool) (hd : u.descs = s.descs) (links : LinksKept s t) (owners : OwnersWithout s t o)
    (tp : t.pool = (u.resolve d o h).2.pool) (td : t.descs = (u.resolve d o h).2.descs) : Moves s t := by
  have hdesc : u.desc d = s.desc d := congrArg (·[d]) hd
  rcases (u.resolve_cases d o h).2 with ⟨hpool, hdescs⟩ | ⟨hpool, hdescs | ⟨x, y, hx, hs, hc, hst, hdescs⟩⟩
  · obtain ⟨hfp, hfd⟩ := State.freeDesc_congr hp hd d
    exact .single (.drop owner links owners ((tp.trans hpool).trans hfp) ((td.trans hdescs).trans hfd))
  · exact .single (.keep links owners.kept ((tp.trans hpool).trans hp) ((td.trans hdescs).trans hd))
  · refine .single (.store owner (hdesc ▸ hx) hs hc hst links owners ((tp.trans hpool).trans hp) ?_)
    rw [td, hdescs]
    simp [State.setDesc, hd]

/-! ## Characters received -/

theorem moves_storeByte (s : State) (f : RxFrame) (b : Byte) : Moves s (s.storeByte f b) := by
  rw [s.storeByte_frame f b]
  exact moves_of_same rfl rfl rfl rfl

theorem moves_giveHeader (s : State) (f : RxFrame) (h : Header) : Moves s (s.giveHeader f h) := by
  unfold State.giveHeader
  cases f.disposition with
  | storing d =>
    cases hd : s.desc d with
    | none => simp only [hd]; exact .refl
    | some x => simp only [hd]; exact .single (.edit hd ⟨rfl, rfl, rfl, id⟩)
  | sinkingNoDescriptor | sinkingSurplus => exact .refl

/-- The frame in progress goes on with the same disposition. -/
theorem moves_setRx_same {s : State} {p : LinkId} {f g : RxFrame} (hrx : (s.links.get p).rx = some f)
    (hg : g.disposition = f.disposition) : Moves s (s.setRx p (some g)) :=
  moves_setRx (Or.inl (by simp [hrx])) fun _ hd => State.owns_of_rx hrx (hg ▸ hd)

/-- A byte of the frame in progress is stored, and the frame goes on. -/
theorem moves_storeByte_setRx {s : State} {p : LinkId} {f g : RxFrame} (hrx : (s.links.get p).rx = some f)
    (hg : g.disposition = f.disposition) (b : Byte) : Moves s ((s.storeByte f b).setRx p (some g)) := by
  refine (moves_storeByte s f b).trans (moves_setRx_same (f := f) ?_ hg)
  rw [← hrx, s.storeByte_frame f b]

/-- The frame in progress after its first byte. -/
def RxFrame.first (b : Byte) (disp : Disposition) : RxFrame := ⟨1, [b], none, crcByte 0xFFFF#16 b, 0, disp⟩

/-- The reserve cell `c` of link `p` made the chain of the FREE descriptor `d`, and counted as held (R24, R37). -/
def State.claimCell (s : State) (p : LinkId) (q : LinkPool) (d : DescId) (c : CellId) : State :=
  ((s.setLinkPool p q).allocate d p.port none [c]).setHeld p.port (s.pool.held.get p.port + 1)

/-- A group start refused at position 0 is the fault RX_OVERRUN with a frame of unknown header. -/
theorem State.startFrame_refused {s : State} {p : LinkId} (h : s.takeReserveCell p = none) (b : Byte) :
    s.startFrame p b = s.enterFaulted p .rxOverrun (some none) := by
  simp only [State.startFrame, h]

/-- With a FREE descriptor the cell becomes its chain, and the byte is the first in it. -/
theorem State.startFrame_claims {s : State} {p : LinkId} {o : Nat} {c : CellId} {rest : List CellId}
    (ho : (s.pool.links.get p).outstanding = o + 1) (hr : (s.pool.links.get p).reserve = c :: rest) {d : DescId}
    (hd : s.lowestFree = some d) (b : Byte) :
    s.startFrame p b =
      ((s.claimCell p ⟨rest, o, (s.pool.links.get p).pendingCredit⟩ d c).writeFrameByte [c] 0 b).setRx p
        (some (.first b (.storing d))) := by
  have hd' : (s.setLinkPool p ⟨rest, o, (s.pool.links.get p).pendingCredit⟩).lowestFree = some d := hd
  simp only [State.startFrame, State.takeReserveCell_of_credit ho hr, hd']
  rfl

/-- With no FREE descriptor the cell goes to the tail of the free list, and the frame is sunk (R40). -/
theorem State.startFrame_sinks {s : State} {p : LinkId} {o : Nat} {c : CellId} {rest : List CellId}
    (ho : (s.pool.links.get p).outstanding = o + 1) (hr : (s.pool.links.get p).reserve = c :: rest)
    (hd : s.lowestFree = none) (b : Byte) :
    s.startFrame p b =
      ((s.setLinkPool p ⟨rest, o, (s.pool.links.get p).pendingCredit⟩).appendFree [c]).setRx p
        (some (.first b .sinkingNoDescriptor)) := by
  have hd' : (s.setLinkPool p ⟨rest, o, (s.pool.links.get p).pendingCredit⟩).lowestFree = none := hd
  simp only [State.startFrame, State.takeReserveCell_of_credit ho hr, hd']
  rfl

/-- What a group start can be: refused, or one credit and the first cell of the reserve (R24 to R26). -/
theorem State.takeReserveCell_cases (s : State) (p : LinkId) : s.takeReserveCell p = none ∨
    ∃ o c rest, (s.pool.links.get p).outstanding = o + 1 ∧ (s.pool.links.get p).reserve = c :: rest ∧
      s.takeReserveCell p = some (c, s.setLinkPool p ⟨rest, o, (s.pool.links.get p).pendingCredit⟩) := by
  cases h : s.takeReserveCell p with
  | none => exact Or.inl rfl
  | some ct =>
    obtain ⟨c, t⟩ := ct
    obtain ⟨o, rest, ho, hr, rfl⟩ := State.takeReserveCell_some h
    exact Or.inr ⟨o, c, rest, ho, hr, rfl⟩

/-- DATA at position 0 in RUN with no frame in progress. -/
theorem moves_startFrame {s : State} {p : LinkId} (hs : (s.links.get p).state = .run) (b : Byte) :
    Moves s (s.startFrame p b) := by
  rcases s.takeReserveCell_cases p with hnone | ⟨o, c, rest, ho, hr, -⟩
  · rw [State.startFrame_refused hnone]
    exact moves_enterFaulted ..
  cases hfree : s.lowestFree with
  | none =>
    rw [State.startFrame_sinks ho hr hfree]
    refine .single (.sink ho hr (linksKept_of_setLink rfl rfl (le_max_left ..) fun _ => Or.inr hs) ?_ rfl rfl)
    exact ownersKept_of_setLink rfl rfl fun f d hf hd => by cases hf; cases hd
  | some d =>
    rw [State.startFrame_claims ho hr hfree, State.writeFrameByte_frame]
    refine .single (.claim ho hr (State.lowestFree_spec hfree) ⟨rfl, rfl, rfl, rfl⟩
      (linksKept_of_setLink rfl rfl (le_max_left ..) fun _ => Or.inr hs) (fun o' e h => ?_) rfl rfl)
    rcases State.owns_of_setLink (s := s) (p := p) h rfl rfl with ⟨h, -⟩ | ⟨rfl, f, hf, hd⟩
    · exact Or.inl h
    · cases hf
      cases hd
      exact Or.inr ⟨rfl, rfl⟩

/-- From position 3 on the four bytes make the header: its LENGTH is too great, or it becomes known and the byte is
stored. -/
theorem State.headerData_late (s : State) (p : LinkId) (f : RxFrame) (b : Byte) (h3 : ¬ f.position < 3) :
    s.headerData p f b =
      let early := f.early ++ [b]
      let h := headerOfBytes (early.getD 0 0) (early.getD 1 0) (early.getD 2 0) (early.getD 3 0)
      if Config.maxPayload < h.length.toNat then s.enterFaulted p .oversize (some (some h))
      else ((s.giveHeader f h).storeByte f b).setRx p
        (some { f with position := f.position + 1, early := [], header := some h, crc := crcByte f.crc b }) := by
  unfold State.headerData
  simp only [if_neg h3]
  rfl

theorem moves_headerData {s : State} {p : LinkId} {f : RxFrame} (hrx : (s.links.get p).rx = some f) (b : Byte) :
    Moves s (s.headerData p f b) := by
  by_cases h3 : f.position < 3
  · rw [State.headerData_early _ _ _ _ h3]
    exact moves_storeByte_setRx hrx (by rfl) b
  · have hrx' (h : Header) : ((s.giveHeader f h).links.get p).rx = some f := by
      rw [← hrx, s.giveHeader_frame f h]
    rw [State.headerData_late _ _ _ _ h3]
    simp only
    split
    · exact moves_enterFaulted ..
    · exact (moves_giveHeader s f _).trans (moves_storeByte_setRx (hrx' _) (by rfl) b)

/-- A later group start of a STORING frame whose descriptor is FREE: the cell goes to the free list. -/
theorem State.bodyData_orphan (s : State) (p : LinkId) (f : RxFrame) (h : Header) (b : Byte)
    (hg : f.position % 64 = 0) (hlt : f.position < h.size) {o : Nat} {c : CellId} {rest : List CellId}
    (ho : (s.pool.links.get p).outstanding = o + 1) (hr : (s.pool.links.get p).reserve = c :: rest)
    {d : DescId} (hd : f.disposition = .storing d) (hx : s.desc d = none) :
    s.bodyData p f h b =
      (((s.setLinkPool p ⟨rest, o, (s.pool.links.get p).pendingCredit⟩).appendFree [c]).storeByte f b).setRx p
        (some (f.fed b)) := by
  have hx' : (s.setLinkPool p ⟨rest, o, (s.pool.links.get p).pendingCredit⟩).desc d = none := hx
  simp only [State.bodyData, isGroupStart_of_mod hg hlt, State.takeReserveCell_of_credit ho hr, hd, hx', if_true,
    RxFrame.fed, State.storeByte]

/-- DATA below the stored size: a byte stored, or a group start with its cell joined, sunk or refused. -/
theorem moves_bodyData {s : State} {p : LinkId} {f : RxFrame} (hrx : (s.links.get p).rx = some f)
    (hsurplus : f.disposition ≠ .sinkingSurplus) {h : Header} (hlt : f.position < h.size) (b : Byte) :
    Moves s (s.bodyData p f h b) := by
  have hin : (some (f.fed b)) ≠ none → (s.links.get p).rx ≠ none ∨ (s.links.get p).state = .run :=
    fun _ => Or.inl (by simp [hrx])
  have hown : ∀ g d, some (f.fed b) = some g → g.disposition = .storing d → s.Owns p.port d := by
    rintro _ d ⟨⟩ hd
    exact State.owns_of_rx hrx hd
  by_cases hg : f.position % 64 = 0
  case neg =>
    rw [State.bodyData_within _ _ _ _ _ hg]
    exact moves_storeByte_setRx hrx (by rfl) b
  rcases s.takeReserveCell_cases p with hnone | ⟨o, c, rest, ho, hr, -⟩
  · have hfault : s.bodyData p f h b = s.fault p .rxOverrun := by
      simp only [State.bodyData, isGroupStart_of_mod hg hlt, hnone, if_true]
    rw [hfault]
    exact moves_fault ..
  cases hd : f.disposition with
  | sinkingSurplus => exact absurd hd hsurplus
  | sinkingNoDescriptor =>
    rw [s.bodyData_sinks p f h b hg hlt ho hr hd]
    exact .single (.sink ho hr (linksKept_of_setLink rfl rfl (le_max_left ..) hin)
      (ownersKept_of_setLink rfl rfl hown) rfl rfl)
  | storing d =>
    cases hx : s.desc d with
    | none =>
      rw [s.bodyData_orphan p f h b hg hlt ho hr hd hx, State.storeByte_frame]
      exact .single (.sink ho hr (linksKept_of_setLink rfl rfl (le_max_left ..) hin)
        (ownersKept_of_setLink rfl rfl hown) rfl rfl)
    | some x =>
      rw [s.bodyData_joins p f h b hg hlt ho hr hd hx, State.writeFrameByte_frame]
      exact .single (.join ho hr (State.owns_of_rx hrx hd) hx (linksKept_of_setLink rfl rfl (le_max_left ..) hin)
        (ownersKept_of_setLink rfl rfl hown) rfl rfl)

/-- A discard at reception, with the link port written before or after it. -/
theorem moves_discardAtReception {s : State} {p : LinkId} {f : RxFrame} {l : LinkPort}
    (hrx : (s.links.get p).rx = some f) (cause : Code) (hs : l.state = (s.links.get p).state)
    (hc : l.txCredit = (s.links.get p).txCredit) (hl : ∀ g d, l.rx = some g → g.disposition ≠ .storing d) :
    Moves s ((s.discardAtReception p f cause).setLink p l) := by
  rw [State.discardAtReception_eq]
  exact (moves_dropFrame hrx hs hc hl).trans (moves_of_same rfl rfl rfl rfl)

theorem moves_setRx_none_discard {s : State} {p : LinkId} {f : RxFrame} (hrx : (s.links.get p).rx = some f)
    (cause : Code) : Moves s ((s.setRx p none).discardAtReception p f cause) := by
  rw [State.setRx, State.modLink, State.discardAtReception_setLink]
  exact moves_discardAtReception hrx cause rfl rfl fun _ _ h => by cases h

theorem moves_knownData {s : State} {p : LinkId} {f : RxFrame} (hrx : (s.links.get p).rx = some f)
    (hsurplus : f.disposition ≠ .sinkingSurplus) (h : Header) (b : Byte) : Moves s (s.knownData p f h b) := by
  rcases lt_or_ge f.position h.size with hlt | hge
  · rw [State.knownData_body _ _ _ _ _ hlt]
    exact moves_bodyData hrx hsurplus hlt b
  by_cases h0 : f.position = h.size
  · rw [State.knownData_checkHigh _ _ _ _ _ h0]
    exact moves_setRx_same hrx (by rfl)
  by_cases h1 : f.position = h.size + 1
  · rw [State.knownData_checkLow _ _ _ _ _ h1]
    exact moves_setRx_same hrx (by rfl)
  · rw [State.knownData_surplus _ _ _ _ _ (by omega), State.setRx, State.modLink, State.discardAtReception_links]
    exact moves_discardAtReception hrx _ rfl rfl fun g d hg hgd => by cases hg; cases hgd

theorem moves_dataInRun {s : State} {p : LinkId} (hs : (s.links.get p).state = .run) (b : Byte) :
    Moves s (s.dataInRun p b) := by
  unfold State.dataInRun
  cases hrx : (s.links.get p).rx with
  | none => exact moves_startFrame hs b
  | some f =>
    cases hd : f.disposition with
    | sinkingSurplus => simp only [hd]; exact .refl
    | storing d | sinkingNoDescriptor =>
      cases hh : f.header with
      | none => simp only [hd, hh]; exact moves_headerData hrx b
      | some h => simp only [hd, hh]; exact moves_knownData hrx (by simp [hd]) h b

/-- END_GOOD with a frame in progress. -/
theorem moves_endGoodInFrame {s : State} {p : LinkId} {f : RxFrame} (hrx : (s.links.get p).rx = some f) :
    Moves s (s.endGoodInFrame p f) := by
  unfold State.endGoodInFrame
  cases hd : f.disposition with
  | sinkingSurplus => exact moves_setRx_none s p
  | sinkingNoDescriptor => exact moves_setRx_none_discard hrx _
  | storing d =>
    cases hh : f.header with
    | none => exact moves_setRx_none_discard hrx _
    | some h =>
      simp only
      split
      · exact moves_setRx_none_discard hrx _
      split
      · exact moves_setRx_none_discard hrx _
      · have hresolve := ((s.setRx p none).resolve_cases d p.port h).1
        have hlinks : ((s.setRx p none).resolve d p.port h).2.links =
            s.links.set p { s.links.get p with rx := none } := hresolve.1
        have hengine : ((s.setRx p none).resolve d p.port h).2.win.engine = s.win.engine :=
          congrArg Window.engine hresolve.2
        exact moves_resolve (State.owns_of_rx hrx hd) (by rfl) (by rfl)
          (linksKept_of_setLink hlinks rfl (le_max_left ..) fun h => absurd rfl h)
          (ownersWithout_of_setLink hlinks hengine fun _ _ h => by cases h) rfl rfl

/-- END_CUT with a frame in progress. -/
theorem moves_endCutInFrame {s : State} {p : LinkId} {f : RxFrame} (hrx : (s.links.get p).rx = some f) :
    Moves s (s.endCutInFrame p f) := by
  unfold State.endCutInFrame
  cases f.disposition with
  | sinkingSurplus => exact moves_setRx_none s p
  | sinkingNoDescriptor | storing d => exact moves_setRx_none_discard hrx _

end Sys2Proof.Machine
end

section
/-! LAWS. The commands arm by arm: each is a sequence of moves, and so is every step. -/

namespace Sys2Proof.Machine

set_option Elab.async false

/-! ## Link characters -/

theorem moves_dataReceived {s t : State} {p : LinkId} {b : Byte} (h : exec (.dataReceived p b) s = .next t) :
    Moves s t := by
  cases h
  cases hs : (s.links.get p).state with
  | disabled | listen | faulted => exact .refl
  | sync => exact moves_fault ..
  | run => exact (moves_restartSilence s p).trans (moves_dataInRun (by simpa using hs) b)

theorem moves_endGoodReceived {s t : State} {p : LinkId} (h : exec (.endGoodReceived p) s = .next t) :
    Moves s t := by
  cases h
  cases hs : (s.links.get p).state with
  | disabled | listen | faulted => exact .refl
  | sync => exact moves_fault ..
  | run =>
    cases hrx : (s.links.get p).rx with
    | none => exact moves_fault ..
    | some f => exact (moves_restartSilence s p).trans (moves_endGoodInFrame (by simpa using hrx))

theorem moves_endCutReceived {s t : State} {p : LinkId} (h : exec (.endCutReceived p) s = .next t) :
    Moves s t := by
  cases h
  cases hs : (s.links.get p).state with
  | disabled | listen | faulted => exact .refl
  | sync => exact moves_fault ..
  | run =>
    cases hrx : (s.links.get p).rx with
    | none => exact moves_fault ..
    | some f => exact (moves_restartSilence s p).trans (moves_endCutInFrame (by simpa using hrx))

theorem moves_codeError (s : State) (p : LinkId) : Moves s (s.codeError p) := by
  unfold State.codeError
  cases (s.links.get p).state with
  | disabled | listen | faulted => exact .refl
  | sync | run => exact moves_fault ..

theorem moves_stopStall (s : State) (p : LinkId) : Moves s (s.stopStall p) := moves_setLinkOut ..

theorem moves_endWait (s : State) (p : LinkId) : Moves s (s.endWait p) := by
  unfold State.endWait
  cases (s.outs.get p.port).departing with
  | none => exact .refl
  | some dep =>
    simp only
    split
    · exact (moves_setOut ..).trans (moves_stopStall ..)
    · exact .refl

theorem moves_creditInRun (s : State) (p : LinkId) (n : Nat) : Moves s (s.creditInRun p n) := by
  unfold State.creditInRun
  split
  · rename_i hn
    have hcredit : (s.links.get p).txCredit + n ≤ 64 := hn
    exact (moves_modLink (by rfl) (hcredit.trans (le_max_right ..)) (by rfl)).trans (moves_endWait ..)
  · exact moves_fault ..

theorem moves_creditReceived {s t : State} {p : LinkId} {n : Nat} (h : exec (.creditReceived p n) s = .next t) :
    Moves s t := by
  cases h
  split
  · rename_i hn
    cases hs : (s.links.get p).state with
    | disabled | listen | faulted => exact .refl
    | sync => exact moves_enterRun (le_max_of_le_right (by omega))
    | run => exact (moves_restartSilence s p).trans (moves_creditInRun ..)
  · exact moves_codeError ..

theorem moves_idleReceived {s t : State} {p : LinkId} (h : exec (.idleReceived p) s = .next t) : Moves s t := by
  cases h
  cases (s.links.get p).state with
  | disabled | listen | faulted => exact .refl
  | sync => exact moves_enterRun (le_max_left ..)
  | run => exact moves_restartSilence s p

theorem moves_helloReceived {s t : State} {p : LinkId} (h : exec (.helloReceived p) s = .next t) : Moves s t := by
  cases h
  cases (s.links.get p).state with
  | disabled | faulted => exact .refl
  | listen => exact moves_enterSync ..
  | sync => exact moves_restartSilence s p
  | run => exact moves_fault ..

/-! ## Timers -/

theorem moves_silenceTimerExpiry {s t : State} {p : LinkId} (h : exec (.silenceTimerExpiry p) s = .next t) :
    Moves s t := by
  cases h
  split
  · cases (s.links.get p).state with
    | disabled | listen | faulted => exact .refl
    | sync | run => exact moves_fault ..
  · exact .refl

theorem moves_syncTimerExpiry {s t : State} {p : LinkId} (h : exec (.syncTimerExpiry p) s = .next t) :
    Moves s t := by
  cases h
  split
  · cases (s.links.get p).state with
    | disabled | listen | run | faulted => exact .refl
    | sync => exact moves_fault ..
  · exact .refl

theorem moves_recoveryTimerExpiry {s t : State} {p : LinkId} (h : exec (.recoveryTimerExpiry p) s = .next t) :
    Moves s t := by
  cases h
  split
  · cases hs : (s.links.get p).state with
    | disabled | listen | sync | run => exact .refl
    | faulted =>
      simp only
      split
      · exact moves_enterListen (by simp [hs])
      · exact moves_modLink (by rfl) (le_max_left ..) (by rfl)
  · exact .refl

theorem moves_stallTimerExpiry {s t : State} {p : LinkId} (h : exec (.stallTimerExpiry p) s = .next t) :
    Moves s t := by
  cases h
  split
  · cases (s.outs.get p.port).departing with
    | none => exact .refl
    | some dep =>
      refine ((Relation.ReflTransGen.trans ?_ (moves_dropDeparting ..)).trans (moves_countLost ..)).trans
        (moves_record ..)
      exact moves_modLink (by rfl) (le_max_left ..) (by rfl)
  · exact .refl

theorem moves_holdTimerExpiry {s t : State} {p : LinkId} (h : exec (.holdTimerExpiry p) s = .next t) :
    Moves s t := by
  cases h
  split
  · exact (moves_purgeLost ..).trans (moves_setQueueState ..)
  · exact .refl

/-! ## Refill, selection, transmission -/

theorem moves_refill {s t : State} (h : exec .refill s = .next t) : Moves s t := by
  cases h
  cases hfind : (refillOrder s.pool.refillPointer).find? fun p => s.refillable p with
  | none => exact .refl
  | some p => exact .single (.refill (List.find?_some hfind))

theorem moves_arrive (s : State) (p : LinkId) (dep : Departure) (size : Nat) : Moves s (s.arrive p dep size) :=
  moves_of_same rfl rfl rfl rfl

theorem moves_selection {s t : State} {p : LinkId} (h : exec (.selection p) s = .next t) : Moves s t := by
  cases h
  split
  · cases (s.outs.get p.port).takeNext with
    | none => exact .refl
    | some next =>
      obtain ⟨d, cls, o⟩ := next
      exact ((moves_setOut ..).trans (moves_markDeparting ..)).trans (moves_arrive ..)
  · exact .refl

theorem moves_sendCredit (s : State) (p : LinkId) : Moves s (s.sendCredit p) :=
  (Relation.ReflTransGen.single (.grant p)).trans (moves_putLine ..)

theorem moves_sendCreditOrIdle (s : State) (p : LinkId) : Moves s (s.sendCreditOrIdle p) := by
  unfold State.sendCreditOrIdle
  split
  · exact moves_putLine ..
  · exact moves_sendCredit ..

theorem moves_countDelivered (s : State) (p : Port) : Moves s (s.countDelivered p) :=
  moves_of_same rfl rfl rfl rfl

theorem moves_sendDeparture (s : State) (p : LinkId) (dep : Departure) : Moves s (s.sendDeparture p dep) := by
  unfold State.sendDeparture
  simp only
  split
  · exact ((moves_putLine ..).trans (moves_dropDeparting ..)).trans (moves_countDelivered ..)
  · exact (moves_putLine ..).trans (moves_arrive ..)

theorem moves_transmitInRun (s : State) (p : LinkId) : Moves s (s.transmitInRun p) := by
  unfold State.transmitInRun
  split
  · exact (moves_modLink (by rfl) (le_max_left ..) (by rfl)).trans (moves_putLine ..)
  cases (s.outs.get p.port).departing with
  | none => exact moves_sendCreditOrIdle ..
  | some dep =>
    simp only
    split
    · split
      · exact moves_sendCredit ..
      split
      · have hcredit : (s.links.get p).txCredit - 1 ≤ max (s.links.get p).txCredit 64 :=
          (Nat.sub_le ..).trans (le_max_left ..)
        exact (moves_modLink (by rfl) hcredit (by rfl)).trans (moves_sendDeparture ..)
      · exact moves_putLine ..
    · exact moves_sendDeparture ..

theorem moves_transmitInSync (s : State) (p : LinkId) : Moves s (s.transmitInSync p) := by
  unfold State.transmitInSync
  cases (s.links.get p).syncStep with
  | hello | idle => exact (moves_modLink (by rfl) (le_max_left ..) (by rfl)).trans (moves_putLine ..)
  | stream => exact moves_sendCreditOrIdle ..

theorem moves_transmitCharacter {s t : State} {p : LinkId} (h : exec (.transmitCharacter p) s = .next t) :
    Moves s t := by
  cases h
  cases (s.links.get p).state with
  | disabled | faulted | listen => exact moves_putLine ..
  | sync => exact moves_transmitInSync ..
  | run => exact moves_transmitInRun ..

/-! ## The window -/

theorem moves_modWin {s : State} {f : Window → Window} (he : (f s.win).engine = s.win.engine) :
    Moves s (s.modWin f) :=
  moves_of_same rfl rfl rfl he

theorem moves_endCommand (s : State) (code : Code) (r : Words4) : Moves s (s.endCommand code r) :=
  moves_of_no_send rfl rfl rfl rfl

/-- The engine set to a state with no SEND in progress. -/
theorem moves_setEngine (s : State) {e : Engine} (he : e.sendDesc = none) : Moves s (s.setEngine e) :=
  moves_of_no_send rfl rfl rfl he

theorem moves_endPlain (s : State) (code : Code) : Moves s (s.endPlain code) := moves_endCommand ..

/-- A COMMAND write, by what its command does once taken in IDLE. -/
theorem moves_commandWrite {s : State} {run : State → State}
    (hrun : ∀ u : State, u.win.engine = .idle → Moves u (run u)) : Moves s (s.commandWrite run) := by
  rcases s.commandWrite_cases run with ⟨-, h⟩ | ⟨hready, h⟩ | ⟨-, -, h⟩ <;> rw [h]
  · have htake : Moves s s.take := moves_modWin rfl
    exact htake.trans (hrun s.take hready.2)
  · exact moves_modWin rfl

theorem moves_resolution {s t : State} (h : exec .resolution s = .next t) : Moves s t := by
  cases h
  cases he : s.win.engine with
  | initialising | idle | executingClear | writePhase | readPhase => exact .refl
  | executingSend d =>
    have howns : s.Owns .p0 d := State.owns_of_send (by rw [he]; rfl)
    have hlinks := (s.resolve_cases d .p0 (s.headerOf d)).1.1
    have hend (code : Code) (r : Words4) : Moves s ((s.resolve d .p0 (s.headerOf d)).2.endCommand code r) :=
      moves_resolve howns rfl rfl (linksKept_of_eq hlinks) (ownersWithout_of_engine hlinks rfl) rfl rfl
    simp only
    cases hres : s.resolve d .p0 (s.headerOf d) with
    | mk decision u =>
      rw [hres] at hend
      cases decision with
      | discard cause => exact hend ..
      | place outputs refused pointer => exact hend ..

theorem moves_initialisationEnd {s t : State} (h : exec .initialisationEnd s = .next t) : Moves s t := by
  cases h
  split
  · exact .refl
  cases s.win.engine with
  | initialising => exact moves_of_no_send rfl rfl rfl rfl
  | idle | executingSend | executingClear | writePhase | readPhase => exact .refl

theorem moves_clearSwitchEnd {s t : State} (h : exec .clearSwitchEnd s = .next t) : Moves s t := by
  cases h
  cases s.win.engine with
  | executingClear n => exact moves_endCommand ..
  | initialising | idle | executingSend | writePhase | readPhase => exact .refl

theorem moves_hardReset {s t : State} (h : exec .hardReset s = .next t) : Moves s t := by
  have ht : s.hardResetValues.modWin (fun w => { w with resetApplied := true }) = t := by
    injection h
  exact ht ▸ .single (.reset (Or.inl rfl) rfl rfl rfl)

theorem moves_controlWrite (s : State) (word : Word) : Moves s (s.controlWrite word) := by
  unfold State.controlWrite
  split
  · exact .refl
  split
  · exact .single (.reset (Or.inr rfl) rfl rfl rfl)
  · exact moves_modWin rfl

theorem moves_irqCauseWrite {s t : State} {word : Word} (h : exec (.irqCauseWrite word) s = .next t) :
    Moves s t := by
  cases h
  split
  · exact .refl
  · exact moves_modWin rfl

theorem moves_registerWrite {s t : State} {reg : PlainReg} {word : Word}
    (h : exec (.registerWrite reg word) s = .next t) : Moves s t := by
  cases h
  split
  · exact .refl
  cases reg with
  | param0 | param1 | param2 | param3 | irqEnable => exact moves_modWin rfl
  | error | result0 | result1 | result2 | result3 | linkState | id => exact .refl

theorem moves_resetRelease {s t : State} (h : exec .resetRelease s = .next t) : Moves s t := by
  cases h
  split
  · exact moves_of_no_send rfl rfl rfl rfl
  · exact .refl

theorem State.storePayload_frame (s : State) (d : DescId) (cursor : Nat) (word : Word) :
    s.storePayload d cursor word = { s with cells := (s.storePayload d cursor word).cells } := by
  unfold State.storePayload
  simp only
  split
  · rw [State.writeFrameByte_frame (s.writeFrameByte ..), s.writeFrameByte_frame (s.chainOf d)]
  · exact s.writeFrameByte_frame ..

theorem moves_dataWrite {s t : State} {word : Word} (h : exec (.dataWrite word) s = .next t) : Moves s t := by
  cases h
  split
  · exact .refl
  cases he : s.win.engine with
  | initialising | idle | executingSend | executingClear | readPhase => exact .refl
  | writePhase d cursor =>
    have hsend (e : Engine) (hd : e.sendDesc = some d) : Moves s ((s.storePayload d cursor word).setEngine e) := by
      rw [s.storePayload_frame d cursor word]
      exact moves_of_engine rfl rfl rfl fun d' h => by rw [he]; exact hd.symm.trans h
    simp only
    split
    · exact hsend _ rfl
    · exact hsend _ rfl

theorem moves_dataRead {s t : State} (h : exec .dataRead s = .next t) : Moves s t := by
  have hbus : Moves s (s.modWin fun w => { w with dataBus := s.readRegister 13#4 }) := moves_modWin rfl
  cases h
  simp only
  split
  · exact hbus
  cases s.win.engine with
  | initialising | idle | executingSend | executingClear | writePhase => exact hbus
  | readPhase cursor =>
    cases s.outs.p0.departing with
    | none => exact hbus
    | some dep =>
      simp only
      split
      · exact ((hbus.trans (moves_dropHostCopy ..)).trans (moves_countDelivered ..)).trans (moves_endCommand ..)
      · exact hbus.trans (moves_of_no_send rfl rfl rfl rfl)

/-! ## Host commands -/

theorem State.writeFrameBytes_frame (s : State) (chain : List CellId) (k : Nat) (bs : List Byte) :
    s.writeFrameBytes chain k bs = { s with cells := (s.writeFrameBytes chain k bs).cells } := by
  induction bs generalizing s k with
  | nil => rfl
  | cons b rest ih =>
    rw [State.writeFrameBytes, ih (s.writeFrameByte chain k b), s.writeFrameByte_frame chain k b]

/-- The frame of a SEND allocated with its cells, and the engine in a state of that SEND. -/
theorem moves_beginSend {s : State} {d : DescId} {k : Nat} (h : Header) (hd : s.desc d = none)
    (hk : k ≤ s.pool.freeList.length) (hold : s.pool.held.p0 + k ≤ s.pool.holdLimit.p0) :
    Moves s (s.beginSend d h k) := by
  have howners {t : State} (hl : t.links = s.links) (he : t.win.engine.sendDesc = some d) (o : Port) (e : DescId)
      (h : t.Owns o e) : s.Owns o e ∨ (o = .p0 ∧ e = d) := by
    obtain ⟨q, f, rfl, hq, hf⟩ | ⟨rfl, hsend⟩ := h
    · exact Or.inl (State.owns_of_rx (hl ▸ hq) hf)
    · rw [he] at hsend
      cases hsend
      exact Or.inr ⟨rfl, rfl⟩
  unfold State.beginSend
  simp only
  rw [State.writeFrameBytes_frame]
  split
  · exact .single (.send hd ⟨rfl, rfl, rfl, rfl⟩ hk hold rfl (howners (by rfl) (by rfl)) rfl rfl)
  · exact .single (.send hd ⟨rfl, rfl, rfl, rfl⟩ hk hold rfl (howners (by rfl) (by rfl)) rfl rfl)

theorem moves_runSend (s : State) : Moves s s.runSend := by
  unfold State.runSend
  simp only
  cases classOfWord s.win.taken.w1 with
  | none => exact moves_endPlain ..
  | some cls =>
    simp only
    split
    · exact moves_endPlain ..
    cases hfree : s.lowestFree with
    | none => exact moves_endPlain ..
    | some d =>
      simp only
      split
      · exact moves_endPlain ..
      split
      · exact moves_endPlain ..
      · exact moves_beginSend _ (State.lowestFree_spec hfree) (by omega) (by omega)

theorem moves_runRecv (s : State) : Moves s s.runRecv := by
  unfold State.runRecv
  cases s.outs.p0.takeNext with
  | none => exact moves_endPlain ..
  | some next =>
    obtain ⟨d, cls, o⟩ := next
    have hdeparting (dep : Departure) :
        Moves s ((s.setOut .p0 { o with departing := some dep }).markDeparting .p0 d) :=
      (moves_setOut ..).trans (moves_markDeparting ..)
    simp only
    split
    · exact (((hdeparting _).trans (moves_dropHostCopy ..)).trans (moves_countDelivered ..)).trans
        (moves_endCommand ..)
    · exact (hdeparting _).trans (moves_of_no_send rfl rfl rfl rfl)

theorem moves_runSkip (s : State) : Moves s s.runSkip := by
  unfold State.runSkip
  cases s.outs.p0.takeNext with
  | none => exact moves_endPlain ..
  | some next =>
    obtain ⟨d, cls, o⟩ := next
    exact (((moves_setOut ..).trans (moves_releaseCopy ..)).trans (moves_countLost ..)).trans (moves_endCommand ..)

theorem moves_abortPhase (s : State) : Moves s s.abortPhase := by
  have hcleared : Moves s (s.modWin fun w => { w with overrun := false }) := moves_modWin rfl
  unfold State.abortPhase
  cases he : s.win.engine with
  | initialising | idle | executingSend | executingClear => exact .refl
  | writePhase d cursor =>
    have howns : (s.modWin fun w => { w with overrun := false }).Owns .p0 d :=
      State.owns_of_send (by simp [he, Engine.sendDesc])
    have hlinks := (s.modWin fun w => { w with overrun := false }).freeDesc_links d
    exact hcleared.tail (.drop howns (linksKept_of_eq hlinks) (ownersWithout_of_engine hlinks rfl) rfl rfl)
  | readPhase cursor =>
    cases s.outs.p0.departing with
    | none => exact hcleared.trans (moves_endCommand ..)
    | some dep =>
      exact ((hcleared.trans (moves_dropHostCopy ..)).trans (moves_countLost ..)).trans (moves_endCommand ..)

theorem moves_abort {s t : State} (h : exec .abort s = .next t) : Moves s t := by
  cases h
  split
  · exact moves_abortPhase s
  · exact moves_commandWrite fun u _ => moves_endPlain ..

theorem State.allDisabled_iff {s : State} : s.allDisabled = true ↔ ∀ p, (s.links.get p).state = .disabled := by
  simp only [State.allDisabled, PerLink.toList, List.all_map, List.all_eq_true, Function.comp, decide_eq_true_eq]
  exact ⟨fun h p => h p p.mem_all, fun h p _ => h p⟩

theorem moves_runSetPool (s : State) : Moves s s.runSetPool := by
  unfold State.runSetPool
  cases hall : s.allDisabled with
  | false => exact moves_endPlain ..
  | true =>
    cases hq : poolSetting s.pool s.win.taken with
    | none => exact moves_endPlain ..
    | some q =>
      exact (Relation.ReflTransGen.single (.setting (State.allDisabled_iff.1 hall) hq)).trans (moves_endCommand ..)

theorem moves_runClearSwitch {s : State} (he : s.win.engine = .idle) : Moves s s.runClearSwitch := by
  unfold State.runClearSwitch
  cases hall : s.allDisabled with
  | false => exact moves_endPlain ..
  | true =>
    exact (Relation.ReflTransGen.single (.clear (State.allDisabled_iff.1 hall) (by rw [he]; rfl))).trans
      (moves_setEngine _ rfl)

theorem moves_runTakeRecord (s : State) : Moves s s.runTakeRecord := by
  unfold State.runTakeRecord
  cases s.records.list with
  | nil => exact moves_endCommand ..
  | cons r rest => exact moves_of_no_send rfl rfl rfl rfl

theorem moves_runClearCounters (s : State) : Moves s s.runClearCounters :=
  moves_of_no_send rfl rfl rfl rfl

theorem moves_runReadCounter (s : State) : Moves s s.runReadCounter := by
  unfold State.runReadCounter
  split
  · split
    · exact moves_endCommand ..
    · exact moves_endPlain ..
  · exact moves_endPlain ..

theorem moves_runTableWrite (s : State) : Moves s s.runTableWrite := by
  unfold State.runTableWrite
  cases tableWriteEntry s.win.taken with
  | error c => exact moves_endPlain ..
  | ok entry => exact moves_of_no_send rfl rfl rfl rfl

theorem moves_runTableRead (s : State) : Moves s s.runTableRead := by
  unfold State.runTableRead
  split
  · exact moves_endCommand ..
  · exact moves_endPlain ..

theorem moves_runReadPort (s : State) : Moves s s.runReadPort := by
  unfold State.runReadPort
  split
  · exact moves_endPlain ..
  · split <;> exact moves_endCommand ..

theorem moves_setYield (s : State) (p : Port) (y : Nat) : Moves s (s.setYield p y) := moves_setOut ..

theorem moves_runPortConfig (s : State) : Moves s s.runPortConfig := by
  unfold State.runPortConfig
  simp only
  cases portOfWord s.win.taken.w0 with
  | none => exact moves_endPlain ..
  | some p =>
    simp only
    split
    · exact moves_endPlain ..
    cases p.link? with
    | none =>
      simp only
      split
      · exact moves_endPlain ..
      · exact (moves_setYield ..).trans (moves_endPlain ..)
    | some l =>
      cases speedOfWord s.win.taken.w3 with
      | none => exact moves_endPlain ..
      | some speed => exact ((moves_setYield ..).trans (moves_setLinkOut ..)).trans (moves_endPlain ..)

theorem moves_flushOutput (s : State) (p : Port) : Moves s (s.flushOutput p) := by
  unfold State.flushOutput
  cases p.link? with
  | none => exact (moves_purge ..).trans (moves_countLost ..)
  | some l =>
    refine ((Relation.ReflTransGen.trans ?_ (moves_dropDeparting ..)).trans (moves_purge ..)).trans
      (moves_countLost ..)
    exact moves_modLink (by rfl) (le_max_left ..) (by rfl)

theorem moves_runPortFlush (s : State) : Moves s s.runPortFlush := by
  unfold State.runPortFlush
  cases portOfWord s.win.taken.w0 with
  | none => exact moves_endPlain ..
  | some p => exact (moves_flushOutput s p).trans (moves_endCommand ..)

theorem moves_runDisable (s : State) (p : LinkId) : Moves s (s.runDisable p) := by
  unfold State.runDisable
  cases (s.links.get p).state with
  | disabled | listen | sync | run | faulted => exact (moves_disableLink s p).trans (moves_endCommand ..)

theorem moves_runRestart (s : State) (p : LinkId) : Moves s (s.runRestart p) := by
  unfold State.runRestart
  cases (s.links.get p).state with
  | disabled => exact moves_endPlain ..
  | listen | faulted | sync | run => exact (moves_restartLink s p).trans (moves_endCommand ..)

theorem moves_runLinkControl (s : State) : Moves s s.runLinkControl := by
  unfold State.runLinkControl
  split
  · exact moves_endPlain ..
  · exact moves_endPlain ..
  · exact (moves_enableLink ..).trans (moves_endCommand ..)
  · exact moves_runDisable ..
  · exact moves_runRestart ..

/-! ## Every command -/

theorem exec_moves {c : Instr} {s t : State} (h : exec c s = .next t) : Moves s t := by
  have hcommand {run : State → State} (hrun : ∀ u : State, u.win.engine = .idle → Moves u (run u))
      (h : Host.Outcome.next (s.commandWrite run) = (.next t : Answer)) : Moves s t := by
    cases h
    exact moves_commandWrite hrun
  cases c with
  | dataReceived => exact moves_dataReceived h
  | endGoodReceived => exact moves_endGoodReceived h
  | endCutReceived => exact moves_endCutReceived h
  | creditReceived => exact moves_creditReceived h
  | idleReceived => exact moves_idleReceived h
  | helloReceived => exact moves_helloReceived h
  | codeErrorReceived => cases h; exact moves_codeError ..
  | silenceTimerExpiry => exact moves_silenceTimerExpiry h
  | syncTimerExpiry => exact moves_syncTimerExpiry h
  | recoveryTimerExpiry => exact moves_recoveryTimerExpiry h
  | stallTimerExpiry => exact moves_stallTimerExpiry h
  | holdTimerExpiry => exact moves_holdTimerExpiry h
  | refill => exact moves_refill h
  | selection => exact moves_selection h
  | transmitCharacter => exact moves_transmitCharacter h
  | resolution => exact moves_resolution h
  | initialisationEnd => exact moves_initialisationEnd h
  | clearSwitchEnd => exact moves_clearSwitchEnd h
  | hardReset => exact moves_hardReset h
  | softReset | masterEnableWrite => cases h; exact moves_controlWrite ..
  | irqCauseWrite => exact moves_irqCauseWrite h
  | dataWrite => exact moves_dataWrite h
  | dataRead => exact moves_dataRead h
  | registerWrite => exact moves_registerWrite h
  | send => exact hcommand (fun u _ => moves_runSend u) h
  | recv => exact hcommand (fun u _ => moves_runRecv u) h
  | skip => exact hcommand (fun u _ => moves_runSkip u) h
  | abort => exact moves_abort h
  | tableWrite => exact hcommand (fun u _ => moves_runTableWrite u) h
  | tableRead => exact hcommand (fun u _ => moves_runTableRead u) h
  | enable | disable | restart => exact hcommand (fun u _ => moves_runLinkControl u) h
  | portConfig => exact hcommand (fun u _ => moves_runPortConfig u) h
  | portFlush => exact hcommand (fun u _ => moves_runPortFlush u) h
  | readPort => exact hcommand (fun u _ => moves_runReadPort u) h
  | setPool => exact hcommand (fun u _ => moves_runSetPool u) h
  | readPool => exact hcommand (fun u _ => moves_endCommand ..) h
  | readCounter => exact hcommand (fun u _ => moves_runReadCounter u) h
  | clearCounters => exact hcommand (fun u _ => moves_runClearCounters u) h
  | takeRecord => exact hcommand (fun u _ => moves_runTakeRecord u) h
  | clearSwitch => exact hcommand (fun u he => moves_runClearSwitch he) h
  | badCommand => exact hcommand (fun u _ => moves_endPlain ..) h
  | resetRelease => exact moves_resetRelease h

/-- A step takes the command at the front of the queue, or none. -/
theorem step_moves {s t : State} (h : step s = .next t) : Moves s t := by
  unfold step at h
  cases hp : s.pending with
  | nil =>
    rw [hp] at h
    cases h
    exact .refl
  | cons c rest =>
    rw [hp] at h
    have hqueue : Moves s { s with pending := rest } := moves_of_same rfl rfl rfl rfl
    exact hqueue.trans (exec_moves h)

/-- What every move keeps, every step keeps. -/
theorem step_keeps {P : State → Prop} (hmove : ∀ {u v : State}, P u → Move u v → P v) {s t : State} (hs : P s)
    (h : step s = .next t) : P t :=
  Relation.ReflTransGen.head_induction_on (motive := fun u _ => P u → P t) (step_moves h) id
    (fun hm _ ih hu => ih (hmove hu hm)) hs

end Sys2Proof.Machine
end

section
/-! PROOFS. The credit laws of every link (Laws 3 and 4, R17, R20 of the manual), kept by every move. -/

namespace Sys2Proof.Machine

set_option Elab.async false

/-! ## Pools that differ in the reserves and the held counts -/

/-- The settings of a pool stay (R20). -/
def Pool.SameSettings (q r : Pool) : Prop :=
  r.advance = q.advance ∧ r.holdLimit = q.holdLimit ∧ r.floor = q.floor

theorem Pool.SameSettings.refl (q : Pool) : q.SameSettings q := ⟨rfl, rfl, rfl⟩

/-- No held count rises, and reserves, credit and settings stay. -/
structure Pool.Relaxes (q r : Pool) : Prop where
  links : r.links = q.links
  settings : q.SameSettings r
  held : ∀ p, r.held.get p ≤ q.held.get p

theorem Pool.Relaxes.of_eq {q r : Pool} (h : r = q) : q.Relaxes r := by
  subst h
  exact ⟨rfl, .refl _, fun _ => le_rfl⟩

theorem State.freeDesc_relaxes (s : State) (d : DescId) : s.pool.Relaxes (s.freeDesc d).pool := by
  rcases s.freeDesc_cases d with ⟨-, h⟩ | ⟨x, -, h⟩ <;> rw [h]
  · exact .of_eq rfl
  · refine ⟨rfl, ⟨rfl, rfl, rfl⟩, fun p => ?_⟩
    simp only [State.setDesc_pool, State.setHeld_pool, State.appendFree_pool, PerPort.get_set]
    split
    · rename_i hp
      rw [hp]
      exact Nat.sub_le ..
    · exact le_rfl

/-! ## Reserves outside SYNC and RUN -/

/-- A reserve is empty outside SYNC and RUN (R17): the law that `CreditLaws` and `CellsInPlace` share. -/
def State.ReservesOpen (s : State) : Prop :=
  ∀ p, (s.pool.links.get p).reserve ≠ [] → (s.links.get p).state = .sync ∨ (s.links.get p).state = .run

theorem reservesOpen_of_same {s t : State} (hs : s.ReservesOpen) (links : LinksKept s t)
    (hl : t.pool.links = s.pool.links) : t.ReservesOpen := fun p h => by
  rw [links.state]
  exact hs p (hl ▸ h)

theorem reservesOpen_of_set {s t : State} (hs : s.ReservesOpen) (links : LinksKept s t) {p : LinkId} {q : LinkPool}
    (hl : t.pool.links = s.pool.links.set p q)
    (hq : q.reserve ≠ [] → (s.links.get p).state = .sync ∨ (s.links.get p).state = .run) :
    t.ReservesOpen := fun r h => by
  rw [links.state]
  rw [hl, PerLink.get_set] at h
  split at h
  · rename_i hr
    rw [hr]
    exact hq h
  · exact hs r h

theorem reservesOpen_of_enter {s : State} (hs : s.ReservesOpen) {p : LinkId} {l : LinkPort}
    (may : s.MayEnter p l.state) : (s.setLink p l).ReservesOpen := fun r hr => by
  rw [State.setLink_links, PerLink.get_set]
  split
  · rename_i h
    subst h
    rcases may with h | h | h | ⟨hsync, hrun⟩
    · exact Or.inl h
    · exact Or.inr h
    · exact absurd h hr
    · exact absurd (hs r hr) (not_or.2 ⟨hsync, hrun⟩)
  · exact hs r hr

theorem reserve_of_disabled {s : State} (hs : s.ReservesOpen) {p : LinkId}
    (hp : (s.links.get p).state = .disabled) : (s.pool.links.get p).reserve = [] := by
  by_contra h
  rcases hs p h with h | h <;> rw [hp] at h <;> cases h

/-! ## The laws under each kind of change -/

theorem CreditLaws.txCredit_kept {s t : State} (hs : CreditLaws s) (links : LinksKept s t) (p : LinkId) :
    (t.links.get p).txCredit ≤ 64 := by
  have h := links.txCredit p
  rwa [max_eq_right (hs.txCredit p)] at h

/-- The laws after a change that raises no held count. -/
theorem CreditLaws.relax {s t : State} (hs : CreditLaws s) (links : LinksKept s t) (hp : s.pool.Relaxes t.pool) :
    CreditLaws t := by
  obtain ⟨hl, ⟨ha, hh, hf⟩, hheld⟩ := hp
  exact {
    reserveSplit := hl ▸ hs.reserveSplit
    reserveBound := hl ▸ ha ▸ hs.reserveBound
    reserveAscending := hl ▸ hs.reserveAscending
    advanceRange := ha ▸ hs.advanceRange
    holdRange := hh ▸ hs.holdRange
    floorRange := hf ▸ hs.floorRange
    linkHold := fun p => by
      rw [hl, hh]
      exact (Nat.add_le_add_left (hheld p.port) _).trans (hs.linkHold p)
    hostHold := hh ▸ (hheld .p0).trans hs.hostHold
    reserves := reservesOpen_of_same hs.reserves links hl
    txCredit := hs.txCredit_kept links }

/-- What Law 3, R17 and R20 ask of the pool's items of one link, with `held` cells held. -/
structure State.LinkPoolLaws (s : State) (p : LinkId) (q : LinkPool) (held : Nat) : Prop where
  split : q.reserve.length = q.outstanding + q.pendingCredit
  bound : q.reserve.length ≤ s.pool.advance.get p
  ascending : q.reserve.Pairwise (· ≤ ·)
  hold : q.reserve.length + held ≤ s.pool.holdLimit.get p.port
  reserve : q.reserve ≠ [] → (s.links.get p).state = .sync ∨ (s.links.get p).state = .run

/-- The laws after a change of one link's reserve and held count. -/
theorem CreditLaws.setReserve {s t : State} {p : LinkId} {q : LinkPool} (hs : CreditLaws s)
    (links : LinksKept s t) (hl : t.pool.links = s.pool.links.set p q) (settings : s.pool.SameSettings t.pool)
    (hq : s.LinkPoolLaws p q (t.pool.held.get p.port))
    (others : ∀ r, r ≠ p.port → t.pool.held.get r = s.pool.held.get r) : CreditLaws t := by
  obtain ⟨ha, hh, hf⟩ := settings
  have hhost : t.pool.held.p0 = s.pool.held.p0 := others .p0 fun h => p.port_ne_p0 h.symm
  have hlink {P : LinkId → LinkPool → Prop} (hp : P p q) (hr : ∀ r, P r (s.pool.links.get r)) (r : LinkId) :
      P r (t.pool.links.get r) := by
    rw [hl, PerLink.get_set]
    split
    · rename_i h
      rw [h]
      exact hp
    · exact hr r
  exact {
    reserveSplit := hlink (P := fun _ q => q.reserve.length = q.outstanding + q.pendingCredit) hq.split hs.reserveSplit
    reserveBound := ha ▸ hlink (P := fun r q => q.reserve.length ≤ s.pool.advance.get r) hq.bound hs.reserveBound
    reserveAscending := hlink (P := fun _ q => q.reserve.Pairwise (· ≤ ·)) hq.ascending hs.reserveAscending
    advanceRange := ha ▸ hs.advanceRange
    holdRange := hh ▸ hs.holdRange
    floorRange := hf ▸ hs.floorRange
    linkHold := fun r => by
      rw [hl, hh, PerLink.get_set]
      split
      · rename_i h
        rw [h]
        exact hq.hold
      · rename_i h
        rw [others r.port fun h' => h (LinkId.port_inj.1 h')]
        exact hs.linkHold r
    hostHold := by rw [hhost, hh]; exact hs.hostHold
    reserves := reservesOpen_of_set hs.reserves links hl hq.reserve
    txCredit := hs.txCredit_kept links }

/-- The reserve of link `p` without its lowest cell. -/
theorem CreditLaws.linkPoolLaws_rest {s : State} (hs : CreditLaws s) {p : LinkId} {c : CellId} {o : Nat}
    {rest : List CellId} (ho : (s.pool.links.get p).outstanding = o + 1)
    (hr : (s.pool.links.get p).reserve = c :: rest) {held : Nat} (hheld : held ≤ s.pool.held.get p.port + 1) :
    s.LinkPoolLaws p ⟨rest, o, (s.pool.links.get p).pendingCredit⟩ held := by
  have hlen : (s.pool.links.get p).reserve.length = rest.length + 1 := by rw [hr]; rfl
  have hsplit := hs.reserveSplit p
  have hbound := hs.reserveBound p
  have hhold := hs.linkHold p
  exact {
    split := by simp only; omega
    bound := by simp only; omega
    ascending := (hr ▸ hs.reserveAscending p : (c :: rest).Pairwise (· ≤ ·)).tail
    hold := by simp only; omega
    reserve := fun _ => hs.reserves p (by simp [hr]) }

/-! ## A cell that joins a reserve -/

theorem insertCell_perm (c : CellId) (l : List CellId) : (insertCell c l).Perm (c :: l) := by
  induction l with
  | nil => exact .refl _
  | cons x rest ih =>
    unfold insertCell
    split
    · exact .refl _
    · exact (ih.cons x).trans (.swap c x rest)

/-- A reserve stays in ascending order (R17). -/
theorem insertCell_ascending (c : CellId) {l : List CellId} (h : l.Pairwise (· ≤ ·)) :
    (insertCell c l).Pairwise (· ≤ ·) := by
  induction l with
  | nil => exact List.pairwise_singleton ..
  | cons x rest ih =>
    obtain ⟨hx, hrest⟩ := List.pairwise_cons.1 h
    unfold insertCell
    split
    · rename_i hc
      refine List.pairwise_cons.2 ⟨fun y hy => ?_, h⟩
      rcases List.mem_cons.1 hy with rfl | hy
      · exact hc.le
      · exact hc.le.trans (hx y hy)
    · rename_i hc
      refine List.pairwise_cons.2 ⟨fun y hy => ?_, ih hrest⟩
      rcases List.mem_cons.1 ((insertCell_perm c rest).mem_iff.1 hy) with rfl | hy
      · exact not_lt.1 hc
      · exact hx y hy

/-- The four conditions of a refill (R21). -/
theorem State.refillable_iff {s : State} {p : LinkId} : s.refillable p = true ↔
    ((s.links.get p).state = .sync ∨ (s.links.get p).state = .run) ∧
      (s.pool.links.get p).reserve.length < s.pool.advance.get p ∧
      (s.pool.links.get p).reserve.length + s.pool.held.get p.port < s.pool.holdLimit.get p.port ∧
      s.pool.floor < s.pool.freeList.length := by
  simp only [State.refillable, Bool.and_eq_true, Bool.or_eq_true, decide_eq_true_eq, and_assoc]

/-! ## Settings -/

/-- The pool that SET_POOL makes: one setting takes a value of its range (R156). -/
theorem poolSetting_cases {q r : Pool} {w : Words4} (h : poolSetting q w = some r) :
    (∃ v, v ≤ 256 ∧ r = { q with floor := v }) ∨
      (∃ p v, (1 ≤ v ∧ v ≤ 16) ∧ r = { q with advance := q.advance.set p v }) ∨
      ∃ p v, (16 ≤ v ∧ v ≤ 512) ∧ q.held.get p ≤ v ∧ r = { q with holdLimit := q.holdLimit.set p v } := by
  unfold poolSetting at h
  simp only at h
  split at h
  · split at h <;> cases h
    rename_i hv
    exact Or.inl ⟨_, hv, rfl⟩
  · split at h
    · split at h <;> cases h
      rename_i hv
      exact Or.inr (Or.inl ⟨_, _, hv, rfl⟩)
    · cases h
  · split at h
    · split at h <;> cases h
      rename_i hv
      exact Or.inr (Or.inr ⟨_, _, ⟨hv.1, hv.2.1⟩, hv.2.2, rfl⟩)
    · cases h
  · cases h

/-- SET_POOL keeps every setting in its range, and no reserve or held count passes the new one. -/
theorem CreditLaws.setting {s : State} {q : Pool} (hs : CreditLaws s)
    (disabled : ∀ p, (s.links.get p).state = .disabled) (old : poolSetting s.pool s.win.taken = some q) :
    CreditLaws { s with pool := q } := by
  have hempty (p : LinkId) : (s.pool.links.get p).reserve.length = 0 :=
    List.length_eq_zero_iff.2 (reserve_of_disabled hs.reserves (disabled p))
  rcases poolSetting_cases old with ⟨v, hv, rfl⟩ | ⟨p, v, hv, rfl⟩ | ⟨p, v, hv, hheld, rfl⟩
  · exact { hs with floorRange := hv }
  · refine { hs with
      reserveBound := fun r => (hempty r).trans_le (Nat.zero_le _)
      advanceRange := fun r => ?_ }
    simp only [PerLink.get_set]
    split
    · exact hv
    · exact hs.advanceRange r
  · have hlimit (r : Port) : s.pool.held.get r ≤ s.pool.holdLimit.get r →
        s.pool.held.get r ≤ (s.pool.holdLimit.set p v).get r := fun h => by
      rw [PerPort.get_set]
      split
      · rename_i hr
        rw [hr]
        exact hheld
      · exact h
    refine { hs with
      holdRange := fun r => ?_
      linkHold := fun r => ?_
      hostHold := hlimit .p0 hs.hostHold }
    · simp only [PerPort.get_set]
      split
      · exact hv
      · exact hs.holdRange r
    · have h := hs.linkHold r
      simp only [hempty, Nat.zero_add] at h ⊢
      exact hlimit r.port h

/-! ## The laws in each state a reset leaves -/

/-- The laws with reserves, held counts and link ports as a reset leaves them, and settings within their ranges
(R32, R138). -/
theorem creditLaws_of_reset {t : State} (hl : t.pool.links = PerLink.const ⟨[], 0, 0⟩)
    (hheld : t.pool.held = PerPort.const 0) (hlinks : t.links = State.reset.links)
    (ha : ∀ p, 1 ≤ t.pool.advance.get p ∧ t.pool.advance.get p ≤ 16)
    (hh : ∀ p, 16 ≤ t.pool.holdLimit.get p ∧ t.pool.holdLimit.get p ≤ 512) (hf : t.pool.floor ≤ 256) :
    CreditLaws t := by
  have hpool (p : LinkId) : t.pool.links.get p = ⟨[], 0, 0⟩ := by rw [hl, PerLink.get_const]
  have hzero (p : Port) : t.pool.held.get p = 0 := by rw [hheld, PerPort.get_const]
  have hcredit (p : LinkId) : (t.links.get p).txCredit = 0 :=
    congrArg LinkPort.txCredit ((congrArg (·.get p) hlinks).trans (PerLink.get_const LinkPort.reset p))
  exact {
    reserveSplit := fun p => by rw [hpool]; rfl
    reserveBound := fun p => by rw [hpool]; exact Nat.zero_le _
    reserveAscending := fun p => by rw [hpool]; exact .nil
    advanceRange := ha
    holdRange := hh
    floorRange := hf
    linkHold := fun p => by rw [hpool, hzero]; exact Nat.zero_le _
    hostHold := (hzero .p0).trans_le (Nat.zero_le _)
    reserves := fun p h => by rw [hpool] at h; exact absurd rfl h
    txCredit := fun p => (hcredit p).trans_le (Nat.zero_le _) }

theorem creditLaws_reset : CreditLaws State.reset :=
  creditLaws_of_reset rfl rfl rfl (fun p => by cases p <;> decide) (fun p => by cases p <;> decide) (by decide)

/-- CLEAR_SWITCH empties the held counts and keeps reserves, credit and settings (R33). -/
theorem State.clearTraffic_relaxes (s : State) : s.pool.Relaxes s.clearTraffic.pool := by
  have hheld : s.clearTraffic.pool.held = PerPort.const 0 := rfl
  refine ⟨by simp only [State.clearTraffic], ?_, fun p => ?_⟩
  · simp only [State.clearTraffic, Pool.SameSettings, and_self]
  · rw [hheld, PerPort.get_const]
    exact Nat.zero_le _

/-- A group start whose cell is held afterwards (R24, R25). -/
theorem CreditLaws.startHeld {s t : State} (hs : CreditLaws s) {p : LinkId} {c : CellId} {o : Nat}
    {rest : List CellId} (credit : (s.pool.links.get p).outstanding = o + 1)
    (reserve : (s.pool.links.get p).reserve = c :: rest) (links : LinksKept s t)
    (pool : t.pool = (s.startPool p o rest).holdOne p.port) : CreditLaws t := by
  refine hs.setReserve links (p := p) (q := ⟨rest, o, (s.pool.links.get p).pendingCredit⟩) (by rw [pool]; rfl)
    (by rw [pool]; exact ⟨rfl, rfl, rfl⟩) (hs.linkPoolLaws_rest credit reserve ?_) fun r hr => ?_
  · rw [pool, Pool.holdOne, PerPort.get_set_self]
    exact le_rfl
  · rw [pool, Pool.holdOne, PerPort.get_set_ne _ _ hr]
    rfl

/-- SEND's cells are counted at port 0 within its hold limit (R144). -/
theorem CreditLaws.send {s t : State} (hs : CreditLaws s) {k : Nat} {free : List CellId}
    (hold : s.pool.held.p0 + k ≤ s.pool.holdLimit.p0) (links : t.links = s.links)
    (pool : t.pool = { s.pool with freeList := free, held := s.pool.held.set .p0 (s.pool.held.p0 + k) }) :
    CreditLaws t := by
  have hlink (p : LinkId) : t.pool.held.get p.port = s.pool.held.get p.port := by
    rw [pool, PerPort.get_set_ne _ _ p.port_ne_p0]
  have hl : t.pool.links = s.pool.links := by rw [pool]
  have ha : t.pool.advance = s.pool.advance := by rw [pool]
  have hh : t.pool.holdLimit = s.pool.holdLimit := by rw [pool]
  have hf : t.pool.floor = s.pool.floor := by rw [pool]
  exact {
    reserveSplit := hl ▸ hs.reserveSplit
    reserveBound := hl ▸ ha ▸ hs.reserveBound
    reserveAscending := hl ▸ hs.reserveAscending
    advanceRange := ha ▸ hs.advanceRange
    holdRange := hh ▸ hs.holdRange
    floorRange := hf ▸ hs.floorRange
    linkHold := fun p => by rw [hl, hlink, hh]; exact hs.linkHold p
    hostHold := by rw [pool]; exact hold
    reserves := fun p => by rw [hl, links]; exact hs.reserves p
    txCredit := fun p => links ▸ hs.txCredit p }

/-- A link that enters a state leaves no reserve behind, and its transmit credit stays within 64 (R17, R110). -/
theorem CreditLaws.enter {s : State} (hs : CreditLaws s) {p : LinkId} {l : LinkPort} (may : s.MayEnter p l.state)
    (txCredit : l.txCredit ≤ max (s.links.get p).txCredit 64) : CreditLaws (s.setLink p l) := by
  refine { hs with reserves := reservesOpen_of_enter hs.reserves may, txCredit := fun r => ?_ }
  rw [State.setLink_links, PerLink.get_set]
  split
  · rwa [max_eq_right (hs.txCredit p)] at txCredit
  · exact hs.txCredit r

/-- A refill stays within the advance and the hold limit (R21). -/
theorem CreditLaws.refill {s : State} (hs : CreditLaws s) {p : LinkId} (eligible : s.refillable p = true) :
    CreditLaws (s.refillLink p) := by
  obtain ⟨hstate, hbound, hhold, hfree⟩ := State.refillable_iff.1 eligible
  unfold State.refillLink
  cases hlist : s.pool.freeList with
  | nil => simp [hlist] at hfree
  | cons c rest =>
    have hsplit := hs.reserveSplit p
    refine hs.setReserve (p := p) (linksKept_of_eq rfl) rfl ⟨rfl, rfl, rfl⟩
      ⟨?_, ?_, insertCell_ascending c (hs.reserveAscending p), ?_, fun _ => hstate⟩ fun _ _ => rfl
    · simp only [insertCell_length]; omega
    · simp only [insertCell_length]; omega
    · simp only [insertCell_length]; omega

/-! ## Every move -/

theorem CreditLaws.move {s t : State} (hs : CreditLaws s) (h : Move s t) : CreditLaws t := by
  have hsame (u : State) (hu : u.links = s.links) : LinksKept s u := linksKept_of_eq hu
  cases h with
  | keep links _ pool _ => exact hs.relax links (.of_eq pool)
  | edit _ _ => exact hs.relax (hsame _ rfl) (.of_eq rfl)
  | @release d _ _ _ => exact hs.relax (hsame _ (by simp)) (s.freeDesc_relaxes d)
  | @drop _ d _ _ links _ pool _ => exact hs.relax links (pool ▸ s.freeDesc_relaxes d)
  | store _ _ _ _ _ links _ pool _ => exact hs.relax links (.of_eq pool)
  | enter may _ txCredit => exact hs.enter may txCredit
  | giveBack p =>
    have hhold := hs.linkHold p
    exact hs.setReserve (hsame _ rfl) rfl ⟨rfl, rfl, rfl⟩
      ⟨rfl, Nat.zero_le _, .nil, by simp [State.returnReserve]; omega, fun h => absurd rfl h⟩ fun _ _ => rfl
  | refill eligible => exact hs.refill eligible
  | grant p =>
    exact hs.setReserve (hsame _ rfl) rfl ⟨rfl, rfl, rfl⟩
      ⟨hs.reserveSplit p, hs.reserveBound p, hs.reserveAscending p, hs.linkHold p, hs.reserves p⟩ fun _ _ => rfl
  | claim credit reserve _ _ links _ pool _ => exact hs.startHeld credit reserve links pool
  | join credit reserve _ _ links _ pool _ => exact hs.startHeld credit reserve links pool
  | sink credit reserve links _ pool _ =>
    exact hs.setReserve links (by rw [pool]; rfl) (by rw [pool]; exact ⟨rfl, rfl, rfl⟩)
      (hs.linkPoolLaws_rest credit reserve (by rw [pool]; exact Nat.le_succ _)) fun _ _ => by rw [pool]; rfl
  | send _ _ _ hold links _ pool _ => exact hs.send hold links pool
  | setting disabled old => exact hs.setting disabled old
  | clear _ _ => exact hs.relax (hsame _ (by simp only [State.clearTraffic])) s.clearTraffic_relaxes
  | reset pool _ links _ =>
    rcases pool with pool | pool
    · have hr := creditLaws_reset
      exact creditLaws_of_reset (by rw [pool]; rfl) (by rw [pool]; rfl) links (pool ▸ hr.advanceRange)
        (pool ▸ hr.holdRange) (pool ▸ hr.floorRange)
    · exact creditLaws_of_reset (by rw [pool]; rfl) (by rw [pool]; rfl) links (pool ▸ hs.advanceRange)
        (pool ▸ hs.holdRange) (pool ▸ hs.floorRange)

/-- Settles O57: every move keeps the laws, and every step is a sequence of moves. -/
theorem stepKeepsCreditLaws : Obligations.StepKeepsCreditLaws :=
  fun _ _ hs h => step_keeps CreditLaws.move hs h

end Sys2Proof.Machine
end

section
/-! PROOFS. Each of the 1024 cells in exactly one place, and the held counts true (Laws 1 and 2, R15, R19, R35 of the
manual), kept by every move. -/

namespace Sys2Proof.Machine

set_option Elab.async false

/-! ## Sums over links and descriptors -/

/-- A sum over a list, and the same sum with one term changed, share the rest of the terms. -/
theorem sum_map_split {ι M : Type} [DecidableEq ι] [AddCommMonoid M] {l : List ι} {d : ι} (hl : l.Nodup)
    (hd : d ∈ l) {f g : ι → M} (h : ∀ e, e ≠ d → g e = f e) :
    ∃ rest, (l.map f).sum = f d + rest ∧ (l.map g).sum = g d + rest := by
  have hperm := List.perm_cons_erase hd
  have hrest : (l.erase d).map g = (l.erase d).map f :=
    List.map_congr_left fun e he => h e fun heq => hl.not_mem_erase (heq ▸ he)
  refine ⟨((l.erase d).map f).sum, ?_, ?_⟩
  · rw [(hperm.map f).sum_eq, List.map_cons, List.sum_cons]
  · rw [(hperm.map g).sum_eq, List.map_cons, List.sum_cons, hrest]

/-- The cells of the six reserves. -/
def State.reserved (s : State) : Multiset CellId :=
  (LinkId.all.map fun p => ((s.pool.links.get p).reserve : Multiset CellId)).sum

/-- The cells of the chains. -/
def State.chained (s : State) : Multiset CellId :=
  ((List.finRange 192).map fun d => (s.chainOf d : Multiset CellId)).sum

/-- Every cell in its place, as a multiset: `State.cellPlaces` without its order. -/
def State.placed (s : State) : Multiset CellId := (s.pool.freeList : Multiset CellId) + s.reserved + s.chained

theorem coe_flatMap {ι : Type} (l : List ι) (f : ι → List CellId) :
    ((l.flatMap f : List CellId) : Multiset CellId) = (l.map fun i => (f i : Multiset CellId)).sum := by
  induction l with
  | nil => rfl
  | cons i rest ih => rw [List.flatMap_cons, List.map_cons, List.sum_cons, ← ih, Multiset.coe_add]

theorem State.coe_cellPlaces (s : State) : (s.cellPlaces : Multiset CellId) = s.placed := by
  rw [State.cellPlaces, ← Multiset.coe_add, ← Multiset.coe_add, coe_flatMap, coe_flatMap, PerLink.toList,
    List.map_map, State.placed, State.reserved, State.chained, Function.comp_def]

/-- The part of a held count that one descriptor makes (R19). -/
def heldBy (p : Port) : Option Descriptor → Nat
  | some x => if x.source = p then x.chain.length else 0
  | none => 0

theorem State.chainCells_eq (s : State) (p : Port) :
    s.chainCells p = ((List.finRange 192).map fun d => heldBy p (s.desc d)).sum := by
  refine congrArg List.sum (List.map_congr_left fun d _ => ?_)
  cases s.desc d <;> rfl

/-- The reserves with one of them changed. -/
theorem State.reserved_split {s t : State} {p : LinkId} {q : LinkPool} (hl : t.pool.links = s.pool.links.set p q) :
    ∃ rest, s.reserved = ((s.pool.links.get p).reserve : Multiset CellId) + rest ∧
      t.reserved = (q.reserve : Multiset CellId) + rest := by
  obtain ⟨rest, hs, ht⟩ := sum_map_split (M := Multiset CellId) (l := LinkId.all) (by decide) p.mem_all
    (f := fun r => ((s.pool.links.get r).reserve : Multiset CellId))
    (g := fun r => ((t.pool.links.get r).reserve : Multiset CellId)) fun r hr => by
      rw [hl, PerLink.get_set_ne _ _ hr]
  refine ⟨rest, hs, ht.trans ?_⟩
  rw [hl, PerLink.get_set_self]

theorem State.reserved_congr {s t : State} (hl : t.pool.links = s.pool.links) : t.reserved = s.reserved := by
  unfold State.reserved
  rw [hl]

/-- The chains with one descriptor changed. -/
theorem State.chained_split {s t : State} {d : DescId} (h : ∀ e, e ≠ d → t.desc e = s.desc e) :
    ∃ rest, s.chained = (s.chainOf d : Multiset CellId) + rest ∧ t.chained = (t.chainOf d : Multiset CellId) + rest :=
  sum_map_split (List.nodup_finRange 192) (List.mem_finRange d) fun e he => by
    simp only [State.chainOf, h e he]

/-- The cells held for a source with one descriptor changed. -/
theorem State.chainCells_split {s t : State} {d : DescId} (h : ∀ e, e ≠ d → t.desc e = s.desc e) (p : Port) :
    ∃ rest, s.chainCells p = heldBy p (s.desc d) + rest ∧ t.chainCells p = heldBy p (t.desc d) + rest := by
  rw [s.chainCells_eq, t.chainCells_eq]
  exact sum_map_split (List.nodup_finRange 192) (List.mem_finRange d) fun e he => by rw [h e he]

/-! ## Cells and held counts -/

/-- The part of `CellsInPlace` that speaks of the pool and the descriptors alone. -/
structure Stocked (s : State) : Prop where
  places : s.placed = (List.finRange 1024 : Multiset CellId)
  held : ∀ p, s.pool.held.get p = s.chainCells p
  noCopies : ∀ d x, s.desc d = some x → x.state = .assembling → x.copies = PerPort.const none

theorem CellsInPlace.stocked {s : State} (h : CellsInPlace s) : Stocked s where
  places := by rw [← s.coe_cellPlaces]; exact Multiset.coe_eq_coe.2 h.places
  held := h.heldCounts
  noCopies := h.noCopies

/-- The owner of a frame in assembly has an ASSEMBLING descriptor of its own (R35). -/
theorem CellsInPlace.owner {s : State} (h : CellsInPlace s) {o : Port} {d : DescId} (ho : s.Owns o d) :
    ∃ x, s.desc d = some x ∧ x.state = .assembling ∧ x.source = o := by
  obtain ⟨p, f, rfl, hrx, hd⟩ | ⟨rfl, hsend⟩ := ho
  · exact h.storing p f d hrx hd
  · exact h.sending d hsend

/-- The laws from their three parts: the cells, the owners, the links. -/
theorem cellsInPlace_of {t : State} (cells : Stocked t)
    (owners : ∀ o d, t.Owns o d → ∃ x, t.desc d = some x ∧ x.state = .assembling ∧ x.source = o)
    (inFrame : ∀ p, (t.links.get p).rx ≠ none → (t.links.get p).state = .run)
    (reserves : t.ReservesOpen) : CellsInPlace t where
  places := by
    rw [← Multiset.coe_eq_coe, t.coe_cellPlaces]
    exact cells.places
  storing p f d hrx hd := owners p.port d (State.owns_of_rx hrx hd)
  sending d hd := owners .p0 d (State.owns_of_send hd)
  noCopies := cells.noCopies
  inFrame := inFrame
  reserves := reserves
  heldCounts := cells.held

/-- The cells after a change of one descriptor, of the free list, the reserves and the held counts. -/
theorem Stocked.change {s t : State} (hs : Stocked s) {d : DescId} (others : ∀ e, e ≠ d → t.desc e = s.desc e)
    (cells : (t.pool.freeList : Multiset CellId) + t.reserved + t.chainOf d =
      (s.pool.freeList : Multiset CellId) + s.reserved + s.chainOf d)
    (held : ∀ p, heldBy p (s.desc d) ≤ s.pool.held.get p →
      t.pool.held.get p + heldBy p (s.desc d) = s.pool.held.get p + heldBy p (t.desc d))
    (noCopies : ∀ x, t.desc d = some x → x.state = .assembling → x.copies = PerPort.const none) : Stocked t where
  places := by
    obtain ⟨rest, hs', ht'⟩ := State.chained_split others
    have hplaces := hs.places
    rw [State.placed, hs', ← add_assoc] at hplaces
    rw [State.placed, ht', ← add_assoc, cells, hplaces]
  held p := by
    obtain ⟨rest, hs', ht'⟩ := State.chainCells_split others p
    have hp := hs.held p
    have h := held p (by omega)
    omega
  noCopies e x hx hstate := by
    by_cases he : e = d
    · subst he
      exact noCopies x hx hstate
    · exact hs.noCopies e x (others e he ▸ hx) hstate

/-- The cells after a change that leaves the descriptors and the held counts. -/
theorem Stocked.change_pool {s t : State} (hs : Stocked s) (descs : t.descs = s.descs)
    (cells : (t.pool.freeList : Multiset CellId) + t.reserved = (s.pool.freeList : Multiset CellId) + s.reserved)
    (held : t.pool.held = s.pool.held) : Stocked t := by
  have hdesc (d : DescId) : t.desc d = s.desc d := congrArg (·[d]) descs
  refine hs.change (d := 0) (fun e _ => hdesc e) ?_ (fun p _ => ?_) fun x hx => hs.noCopies 0 x (hdesc 0 ▸ hx)
  · rw [cells]
    simp only [State.chainOf, hdesc]
  · rw [held, hdesc]

theorem Stocked.congr {s t : State} (hs : Stocked s) (pool : t.pool = s.pool) (descs : t.descs = s.descs) :
    Stocked t :=
  hs.change_pool descs (by rw [State.reserved_congr (congrArg Pool.links pool), pool]) (by rw [pool])

/-- Freeing a descriptor returns its chain and lowers its source's held count by as much (R27). -/
theorem Stocked.freeDesc {s : State} (hs : Stocked s) (d : DescId) : Stocked (s.freeDesc d) := by
  rcases s.freeDesc_cases d with ⟨-, h⟩ | ⟨x, hx, h⟩
  · rw [h]
    exact hs
  have hnone : (s.freeDesc d).desc d = none := by rw [State.desc_freeDesc, if_pos rfl]
  refine hs.change (d := d) (fun e he => by rw [State.desc_freeDesc, if_neg he]) ?_ (fun p hle => ?_)
    fun y hy => by rw [hnone] at hy; cases hy
  · have hfree : (s.freeDesc d).pool.freeList = s.pool.freeList ++ x.chain := by rw [h]; rfl
    rw [State.reserved_congr (s.freeDesc_poolLinks d), hfree, ← Multiset.coe_add]
    simp only [State.chainOf, hnone, hx, Multiset.coe_nil, add_zero]
    exact add_right_comm ..
  · have hheld : (s.freeDesc d).pool.held =
        s.pool.held.set x.source (s.pool.held.get x.source - x.chain.length) := by rw [h]; rfl
    rw [hnone, hx, hheld, PerPort.get_set]
    rw [hx] at hle
    simp only [heldBy] at hle ⊢
    by_cases hp : p = x.source
    · subst hp
      simp only [if_true] at hle ⊢
      omega
    · simp only [if_neg hp, if_neg (Ne.symm hp)]

/-- A descriptor replaced by one of the same source and chain. -/
theorem Stocked.setDesc {s : State} (hs : Stocked s) {d : DescId} {x y : Descriptor} (old : s.desc d = some x)
    (source : y.source = x.source) (chain : y.chain = x.chain)
    (noCopies : y.state = .assembling → y.copies = PerPort.const none) : Stocked (s.setDesc d (some y)) := by
  refine hs.change (d := d) (fun e he => s.desc_setDesc_ne _ he) ?_ (fun p _ => ?_) fun z hz hstate => ?_
  · rw [State.reserved_congr (s := s) (t := s.setDesc d (some y)) rfl]
    simp only [State.chainOf, State.desc_setDesc_self, old, chain, State.setDesc_pool]
  · simp only [State.desc_setDesc_self, old, heldBy, source, chain, State.setDesc_pool]
  · rw [State.desc_setDesc_self] at hz
    cases hz
    exact noCopies hstate

/-- The reserve of link `p` with its lowest cell taken. -/
theorem State.reserved_start {s t : State} {p : LinkId} {c : CellId} {o : Nat} {rest : List CellId}
    (reserve : (s.pool.links.get p).reserve = c :: rest) (hl : t.pool.links = (s.startPool p o rest).links) :
    s.reserved = t.reserved + {c} := by
  obtain ⟨r, hs, ht⟩ := State.reserved_split (p := p) hl
  rw [hs, ht, reserve, ← Multiset.cons_coe, ← Multiset.singleton_add, add_assoc, add_comm]

/-- A group start whose cell becomes the last of a chain of its link's frame (R24, R25). -/
theorem Stocked.start {s t : State} (hs : Stocked s) {p : LinkId} {d : DescId} {c : CellId} {o : Nat}
    {rest : List CellId} {x : Descriptor} (reserve : (s.pool.links.get p).reserve = c :: rest)
    (pool : t.pool = (s.startPool p o rest).holdOne p.port) (descs : t.descs = (s.setDesc d (some x)).descs)
    (old : ∀ y, s.desc d = some y → y.source = p.port) (source : x.source = p.port)
    (chain : x.chain = s.chainOf d ++ [c]) (noCopies : x.state = .assembling → x.copies = PerPort.const none) :
    Stocked t := by
  have hdesc (e : DescId) : t.desc e = (s.setDesc d (some x)).desc e := congrArg (·[e]) descs
  have hd : t.desc d = some x := by rw [hdesc, State.desc_setDesc_self]
  have hchain : t.chainOf d = s.chainOf d ++ [c] := by simp only [State.chainOf, hd, chain]
  have hheld : t.pool.held = s.pool.held.set p.port (s.pool.held.get p.port + 1) := by rw [pool]; rfl
  have hpart (r : Port) : heldBy r (t.desc d) = heldBy r (s.desc d) + if r = p.port then 1 else 0 := by
    have hlen : x.chain.length = (s.chainOf d).length + 1 := by rw [chain]; simp
    rw [hd]
    cases hs' : s.desc d with
    | none =>
      simp only [State.chainOf, hs'] at hlen
      simp [heldBy, source, hlen, eq_comm]
    | some y =>
      simp only [State.chainOf, hs'] at hlen
      by_cases hr : r = p.port
      · simp [heldBy, source, old y hs', hlen, hr]
      · simp [heldBy, source, old y hs', hr, Ne.symm hr]
  refine hs.change (d := d) (fun e he => by rw [hdesc, State.desc_setDesc_ne _ _ he]) ?_ (fun r _ => ?_)
    fun y hy hstate => ?_
  · have hfree : t.pool.freeList = s.pool.freeList := by rw [pool]; rfl
    rw [State.reserved_start (t := t) reserve (by rw [pool]; rfl), hchain, hfree, ← Multiset.coe_add,
      Multiset.coe_singleton]
    abel
  · rw [hpart, hheld, PerPort.get_set]
    split
    · rename_i hr
      subst hr
      omega
    · omega
  · cases hd.symm.trans hy
    exact noCopies hstate

/-- SEND's cells leave the free list for the chain of its descriptor (R29, R144). -/
theorem Stocked.send {s t : State} (hs : Stocked s) {d : DescId} {k : Nat} {x : Descriptor}
    (old : s.desc d = none) (new : x.Assembles .p0 (s.pool.freeList.take k)) (cells : k ≤ s.pool.freeList.length)
    (pool : t.pool = { s.pool with
      freeList := s.pool.freeList.drop k, held := s.pool.held.set .p0 (s.pool.held.p0 + k) })
    (descs : t.descs = (s.setDesc d (some x)).descs) : Stocked t := by
  have hdesc (e : DescId) : t.desc e = (s.setDesc d (some x)).desc e := congrArg (·[e]) descs
  have hd : t.desc d = some x := by rw [hdesc, State.desc_setDesc_self]
  refine hs.change (d := d) (fun e he => by rw [hdesc, State.desc_setDesc_ne _ _ he]) ?_ (fun p _ => ?_)
    fun y hy _ => ?_
  · have hfree : t.pool.freeList = s.pool.freeList.drop k := by rw [pool]
    have hsplit : (s.pool.freeList : Multiset CellId) =
        (s.pool.freeList.take k : Multiset CellId) + (s.pool.freeList.drop k : Multiset CellId) := by
      rw [Multiset.coe_add, List.take_append_drop]
    rw [State.reserved_congr (s := s) (t := t) (by rw [pool]), hfree, hsplit]
    simp only [State.chainOf, hd, old, new.chain, Multiset.coe_nil]
    abel
  · have hheld : t.pool.held = s.pool.held.set .p0 (s.pool.held.p0 + k) := by rw [pool]
    have hlen : x.chain.length = k := by rw [new.chain, List.length_take_of_le cells]
    rw [hheld, hd, old, PerPort.get_set]
    simp only [heldBy, new.source, hlen]
    by_cases hp : p = .p0
    · subst hp
      rfl
    · simp only [if_neg hp, if_neg (Ne.symm hp)]
  · cases hd.symm.trans hy
    exact new.copies

/-- The cells with no descriptor in use, all of them in the free list. -/
theorem stocked_of_empty {t : State} (free : t.pool.freeList = List.finRange 1024) (reserved : t.reserved = 0)
    (held : t.pool.held = PerPort.const 0) (descs : ∀ d, t.desc d = none) : Stocked t where
  places := by
    have hchained : t.chained = 0 := by
      refine List.sum_eq_zero fun m hm => ?_
      obtain ⟨d, -, rfl⟩ := List.mem_map.1 hm
      simp only [State.chainOf, descs]
      rfl
    rw [State.placed, reserved, hchained, add_zero, add_zero, free]
  held p := by
    rw [held, PerPort.get_const, State.chainCells_eq]
    refine (List.sum_eq_zero fun n hn => ?_).symm
    obtain ⟨d, -, rfl⟩ := List.mem_map.1 hn
    rw [descs]
    rfl
  noCopies d x hx := by rw [descs] at hx; cases hx

theorem State.reserved_of_empty {t : State} (h : ∀ p, (t.pool.links.get p).reserve = []) : t.reserved = 0 := by
  refine List.sum_eq_zero fun m hm => ?_
  obtain ⟨p, -, rfl⟩ := List.mem_map.1 hm
  rw [h]
  rfl

theorem desc_of_replicate {t : State} (h : t.descs = Vector.replicate 192 none) (d : DescId) : t.desc d = none := by
  rw [State.desc, h]
  simp

/-! ## Owners, frames and reserves -/

/-- A frame is in progress only in RUN after a change that keeps the link states. -/
theorem CellsInPlace.inFrame_kept {s t : State} (hs : CellsInPlace s) (links : LinksKept s t) (p : LinkId)
    (h : (t.links.get p).rx ≠ none) : (t.links.get p).state = .run := by
  rw [links.state]
  rcases links.inFrame p h with h | h
  · exact hs.inFrame p h
  · exact h

/-- Owners whose descriptors a change leaves alone. -/
theorem CellsInPlace.owners_of_desc {s t : State} (hs : CellsInPlace s) {o : Port} {d : DescId} (ho : s.Owns o d)
    (hd : t.desc d = s.desc d) : ∃ x, t.desc d = some x ∧ x.state = .assembling ∧ x.source = o :=
  hd ▸ hs.owner ho

/-- Two ports own no descriptor in common (R35). -/
theorem CellsInPlace.owner_ne {s : State} (hs : CellsInPlace s) {o o' : Port} {d d' : DescId} (ho : s.Owns o d)
    (ho' : s.Owns o' d') (h : o' ≠ o) : d' ≠ d := by
  rintro rfl
  obtain ⟨x, hx, -, rfl⟩ := hs.owner ho
  obtain ⟨y, hy, -, rfl⟩ := hs.owner ho'
  cases hx.symm.trans hy
  exact h rfl

/-! ## Every move -/

/-- The laws after a change that keeps the link states, the reserves, and the descriptors of the owners left. -/
theorem CellsInPlace.keep {s t : State} (hs : CellsInPlace s) (cells : Stocked t) (links : LinksKept s t)
    (hl : t.pool.links = s.pool.links)
    (owners : ∀ o d, t.Owns o d → s.Owns o d ∧ t.desc d = s.desc d) : CellsInPlace t :=
  cellsInPlace_of cells (fun o d h => hs.owners_of_desc (owners o d h).1 (owners o d h).2)
    (hs.inFrame_kept links) (reservesOpen_of_same hs.reserves links hl)

/-- As `CellsInPlace.keep`, with the reserve of one link replaced. -/
theorem CellsInPlace.keep_set {s t : State} (hs : CellsInPlace s) (cells : Stocked t) (links : LinksKept s t)
    {p : LinkId} {q : LinkPool} (hl : t.pool.links = s.pool.links.set p q)
    (hq : q.reserve ≠ [] → (s.links.get p).state = .sync ∨ (s.links.get p).state = .run)
    (owners : OwnersKept s t) (descs : t.descs = s.descs) : CellsInPlace t :=
  cellsInPlace_of cells (fun o d h => hs.owners_of_desc (owners o d h) (congrArg (·[d]) descs))
    (hs.inFrame_kept links) (reservesOpen_of_set hs.reserves links hl hq)

/-- A descriptor with a copy belongs to no frame in assembly (R34). -/
theorem CellsInPlace.not_owned_of_copies {s : State} (hs : CellsInPlace s) {o : Port} {d e : DescId}
    {x : Descriptor} (hx : s.desc d = some x) (hc : x.copies ≠ PerPort.const none) (ho : s.Owns o e) : e ≠ d := by
  rintro rfl
  obtain ⟨y, hy, hstate, -⟩ := hs.owner ho
  cases hx.symm.trans hy
  exact hc (hs.noCopies e x hx hstate)

/-- An edit keeps the state and the source of the descriptor, so its owner, if any, owns it still. -/
theorem CellsInPlace.edit {s : State} (hs : CellsInPlace s) {d : DescId} {x y : Descriptor}
    (old : s.desc d = some x) (new : x.Keeps y) : CellsInPlace (s.setDesc d (some y)) := by
  refine cellsInPlace_of (hs.stocked.setDesc old new.source new.chain fun h => ?_) (fun o e ho => ?_) hs.inFrame
    hs.reserves
  · exact new.copies (hs.noCopies d x old (new.state ▸ h))
  · obtain ⟨z, hz, hstate, hsource⟩ := hs.owner (s := s) ho
    rw [State.desc_setDesc]
    split
    · rename_i he
      subst he
      cases old.symm.trans hz
      exact ⟨y, rfl, new.state.trans hstate, new.source.trans hsource⟩
    · exact ⟨z, hz, hstate, hsource⟩

theorem CellsInPlace.enter {s : State} (hs : CellsInPlace s) {p : LinkId} {l : LinkPort}
    (may : s.MayEnter p l.state) (rx : l.rx = none) : CellsInPlace (s.setLink p l) := by
  have howners : OwnersKept s (s.setLink p l) :=
    ownersKept_of_setLink rfl rfl fun f d hf => by rw [rx] at hf; cases hf
  refine cellsInPlace_of (hs.stocked.congr rfl rfl) (fun o d h => hs.owner (howners o d h)) (fun r hr => ?_)
    (reservesOpen_of_enter hs.reserves may)
  rw [State.setLink_links, PerLink.get_set] at hr ⊢
  split at hr
  · exact absurd rx hr
  · rename_i h
    rw [if_neg h]
    exact hs.inFrame r hr

/-- A refill moves the head of the free list to a reserve (R21). -/
theorem CellsInPlace.refill {s : State} (hs : CellsInPlace s) {p : LinkId} (eligible : s.refillable p = true) :
    CellsInPlace (s.refillLink p) := by
  obtain ⟨hstate, -, -, hfree⟩ := State.refillable_iff.1 eligible
  unfold State.refillLink
  cases hlist : s.pool.freeList with
  | nil => simp [hlist] at hfree
  | cons c rest =>
    refine hs.keep_set (hs.stocked.change_pool rfl ?_ rfl) (linksKept_of_eq rfl) rfl (fun _ => hstate)
      (fun _ _ => id) rfl
    obtain ⟨others, hr, ht⟩ := State.reserved_split (s := s) (p := p)
      (t := { s with pool := { s.pool with
        freeList := rest
        links := s.pool.links.set p { s.pool.links.get p with
          reserve := insertCell c (s.pool.links.get p).reserve
          pendingCredit := (s.pool.links.get p).pendingCredit + 1 }
        refillPointer := p } }) rfl
    rw [ht, hr, hlist, Multiset.coe_eq_coe.2 (insertCell_perm c _), ← Multiset.cons_coe, ← Multiset.cons_coe,
      ← Multiset.singleton_add, ← Multiset.singleton_add]
    simp only
    abel

/-- A reserve returned goes to the free list (R28). -/
theorem CellsInPlace.giveBack {s : State} (hs : CellsInPlace s) (p : LinkId) : CellsInPlace (s.returnReserve p) := by
  refine hs.keep_set (hs.stocked.change_pool rfl ?_ rfl) (linksKept_of_eq rfl) (p := p) rfl
    (fun h => absurd rfl h) (fun _ _ => id) rfl
  obtain ⟨others, hr, ht⟩ := State.reserved_split (s := s) (t := s.returnReserve p) (p := p) rfl
  have hfree : (s.returnReserve p).pool.freeList = s.pool.freeList ++ (s.pool.links.get p).reserve := rfl
  rw [ht, hr, hfree, ← Multiset.coe_add, Multiset.coe_nil]
  abel

/-- Pending credit granted moves no cell (R18). -/
theorem CellsInPlace.grant {s : State} (hs : CellsInPlace s) {p : LinkId} {q : LinkPool}
    (hq : q.reserve = (s.pool.links.get p).reserve) : CellsInPlace (s.setLinkPool p q) := by
  refine hs.keep_set (hs.stocked.change_pool rfl ?_ rfl) (linksKept_of_eq rfl) (p := p) rfl
    (fun h => hs.reserves p (hq ▸ h)) (fun _ _ => id) rfl
  obtain ⟨others, hr, ht⟩ := State.reserved_split (s := s) (t := s.setLinkPool p q) (p := p) rfl
  rw [ht, hr, hq]
  rfl

/-- The link of a group start is one whose reserve is open. -/
theorem CellsInPlace.open_of_reserve {s : State} (hs : CellsInPlace s) {p : LinkId} {c : CellId}
    {rest : List CellId} (reserve : (s.pool.links.get p).reserve = c :: rest) :
    (s.links.get p).state = .sync ∨ (s.links.get p).state = .run :=
  hs.reserves p (by simp [reserve])

/-- A sunk frame's cell goes from the reserve to the free list (R26). -/
theorem CellsInPlace.sink {s t : State} (hs : CellsInPlace s) {p : LinkId} {c : CellId} {o : Nat}
    {rest : List CellId} (reserve : (s.pool.links.get p).reserve = c :: rest) (links : LinksKept s t)
    (owners : OwnersKept s t) (pool : t.pool = { s.startPool p o rest with freeList := s.pool.freeList ++ [c] })
    (descs : t.descs = s.descs) : CellsInPlace t := by
  have hl : t.pool.links = (s.startPool p o rest).links := by rw [pool]
  have hfree : t.pool.freeList = s.pool.freeList ++ [c] := by rw [pool]
  refine hs.keep_set (hs.stocked.change_pool descs ?_ (by rw [pool]; rfl)) links hl
    (fun _ => hs.open_of_reserve reserve) owners descs
  rw [hfree, State.reserved_start reserve hl, ← Multiset.coe_add, Multiset.coe_singleton]
  abel

/-- Owners after a descriptor was allocated for its new owner: the others own none that was FREE. -/
theorem CellsInPlace.owners_allocated {s t : State} (hs : CellsInPlace s) {o : Port} {d : DescId} {x : Descriptor}
    {chain : List CellId} (old : s.desc d = none) (new : x.Assembles o chain)
    (owners : ∀ o' e, t.Owns o' e → s.Owns o' e ∨ (o' = o ∧ e = d))
    (descs : t.descs = (s.setDesc d (some x)).descs) (o' : Port) (e : DescId) (h : t.Owns o' e) :
    ∃ y, t.desc e = some y ∧ y.state = .assembling ∧ y.source = o' := by
  have hdesc : t.desc e = (s.setDesc d (some x)).desc e := congrArg (·[e]) descs
  rw [hdesc, State.desc_setDesc]
  rcases owners o' e h with ho | ⟨rfl, rfl⟩
  · obtain ⟨y, hy, hstate, hsource⟩ := hs.owner ho
    have hne : e ≠ d := by
      rintro rfl
      rw [old] at hy
      cases hy
    rw [if_neg hne]
    exact ⟨y, hy, hstate, hsource⟩
  · rw [if_pos rfl]
    exact ⟨x, rfl, new.state, new.source⟩

/-- The cell of a group start at position 0 becomes the chain of the frame's new descriptor (R37). -/
theorem CellsInPlace.claim {s t : State} (hs : CellsInPlace s) {p : LinkId} {d : DescId} {c : CellId} {o : Nat}
    {rest : List CellId} {x : Descriptor} (reserve : (s.pool.links.get p).reserve = c :: rest)
    (old : s.desc d = none) (new : x.Assembles p.port [c]) (links : LinksKept s t)
    (owners : ∀ o' e, t.Owns o' e → s.Owns o' e ∨ (o' = p.port ∧ e = d))
    (pool : t.pool = (s.startPool p o rest).holdOne p.port) (descs : t.descs = (s.setDesc d (some x)).descs) :
    CellsInPlace t := by
  have hchain : x.chain = s.chainOf d ++ [c] := by simp [State.chainOf, old, new.chain]
  refine cellsInPlace_of (hs.stocked.start reserve pool descs (fun y hy => ?_) new.source hchain fun _ => new.copies)
    (hs.owners_allocated old new owners descs) (hs.inFrame_kept links)
    (reservesOpen_of_set hs.reserves links (by rw [pool]; rfl) fun _ => hs.open_of_reserve reserve)
  rw [old] at hy
  cases hy

/-- The cell of a later group start joins the chain of the frame in progress (R25). -/
theorem CellsInPlace.join {s t : State} (hs : CellsInPlace s) {p : LinkId} {d : DescId} {c : CellId} {o : Nat}
    {rest : List CellId} {x : Descriptor} (reserve : (s.pool.links.get p).reserve = c :: rest)
    (owner : s.Owns p.port d) (old : s.desc d = some x) (links : LinksKept s t) (owners : OwnersKept s t)
    (pool : t.pool = (s.startPool p o rest).holdOne p.port)
    (descs : t.descs = (s.setDesc d (some { x with chain := x.chain ++ [c] })).descs) : CellsInPlace t := by
  have hdesc (e : DescId) : t.desc e = (s.setDesc d (some { x with chain := x.chain ++ [c] })).desc e :=
    congrArg (·[e]) descs
  have hsource : x.source = p.port := by
    obtain ⟨y, hy, -, hsource⟩ := hs.owner owner
    cases old.symm.trans hy
    exact hsource
  have hchain : x.chain ++ [c] = s.chainOf d ++ [c] := by simp [State.chainOf, old]
  refine cellsInPlace_of (hs.stocked.start reserve pool descs (fun y hy => ?_) hsource hchain (hs.noCopies d x old))
    (fun o' e ho => ?_) (hs.inFrame_kept links)
    (reservesOpen_of_set hs.reserves links (by rw [pool]; rfl) fun _ => hs.open_of_reserve reserve)
  · cases old.symm.trans hy
    exact hsource
  · obtain ⟨y, hy, hy'⟩ := hs.owner (owners o' e ho)
    rw [hdesc, State.desc_setDesc]
    split
    · rename_i he
      subst he
      cases old.symm.trans hy
      exact ⟨_, rfl, hy'⟩
    · exact ⟨y, hy, hy'⟩

/-- SEND's new descriptor is the one port 0 owns (R29, R38). -/
theorem CellsInPlace.send {s t : State} (hs : CellsInPlace s) {d : DescId} {k : Nat} {x : Descriptor}
    (old : s.desc d = none) (new : x.Assembles .p0 (s.pool.freeList.take k)) (cells : k ≤ s.pool.freeList.length)
    (links : t.links = s.links) (owners : ∀ o e, t.Owns o e → s.Owns o e ∨ (o = .p0 ∧ e = d))
    (pool : t.pool = { s.pool with
      freeList := s.pool.freeList.drop k, held := s.pool.held.set .p0 (s.pool.held.p0 + k) })
    (descs : t.descs = (s.setDesc d (some x)).descs) : CellsInPlace t :=
  cellsInPlace_of (hs.stocked.send old new cells pool descs) (hs.owners_allocated old new owners descs)
    (hs.inFrame_kept (linksKept_of_eq links))
    (reservesOpen_of_same hs.reserves (linksKept_of_eq links) (by rw [pool]))

/-- A frame in assembly given up by its owner (R27). -/
theorem CellsInPlace.drop {s t : State} (hs : CellsInPlace s) {o : Port} {d : DescId} (owner : s.Owns o d)
    (links : LinksKept s t) (owners : OwnersWithout s t o) (pool : t.pool = (s.freeDesc d).pool)
    (descs : t.descs = (s.freeDesc d).descs) : CellsInPlace t := by
  refine hs.keep ((hs.stocked.freeDesc d).congr pool descs) links (by rw [pool, State.freeDesc_poolLinks])
    fun o' e h => ?_
  obtain ⟨ho, hne⟩ := owners o' e h
  refine ⟨ho, (congrArg (·[e]) descs).trans ?_⟩
  exact (s.desc_freeDesc d e).trans (if_neg (hs.owner_ne owner ho hne))

/-- A frame in assembly that becomes STORED (R43). -/
theorem CellsInPlace.store {s t : State} (hs : CellsInPlace s) {o : Port} {d : DescId} {x y : Descriptor}
    (owner : s.Owns o d) (old : s.desc d = some x) (source : y.source = x.source) (chain : y.chain = x.chain)
    (state : y.state = .stored) (links : LinksKept s t) (owners : OwnersWithout s t o) (pool : t.pool = s.pool)
    (descs : t.descs = (s.setDesc d (some y)).descs) : CellsInPlace t := by
  have hcells : Stocked (s.setDesc d (some y)) :=
    hs.stocked.setDesc old source chain fun h => by rw [state] at h; cases h
  refine hs.keep (hcells.congr pool descs) links (by rw [pool]) fun o' e h => ?_
  obtain ⟨ho, hne⟩ := owners o' e h
  refine ⟨ho, (congrArg (·[e]) descs).trans ?_⟩
  exact s.desc_setDesc_ne _ (hs.owner_ne owner ho hne)

/-- The laws with every cell in the free list, no descriptor in use, and no frame in progress. -/
theorem cellsInPlace_of_empty {t : State} (free : t.pool.freeList = List.finRange 1024)
    (reserves : ∀ p, (t.pool.links.get p).reserve = []) (held : t.pool.held = PerPort.const 0)
    (descs : t.descs = Vector.replicate 192 none) (rx : ∀ p, (t.links.get p).rx = none)
    (engine : t.win.engine.sendDesc = none) : CellsInPlace t := by
  refine cellsInPlace_of
    (stocked_of_empty free (State.reserved_of_empty reserves) held (desc_of_replicate descs)) ?_
    (fun p h => absurd (rx p) h) fun p h => absurd (reserves p) h
  rintro o d (⟨p, f, -, hrx, -⟩ | ⟨-, hsend⟩)
  · rw [rx] at hrx
    cases hrx
  · rw [engine] at hsend
    cases hsend

/-- A link that is DISABLED has no frame in progress. -/
theorem CellsInPlace.rx_of_disabled {s : State} (hs : CellsInPlace s) {p : LinkId}
    (hp : (s.links.get p).state = .disabled) : (s.links.get p).rx = none := by
  by_contra h
  have hrun := hs.inFrame p h
  rw [hp] at hrun
  cases hrun

theorem CellsInPlace.clear {s : State} (hs : CellsInPlace s) (disabled : ∀ p, (s.links.get p).state = .disabled)
    (engine : s.win.engine.sendDesc = none) : CellsInPlace s.clearTraffic := by
  have hl : s.clearTraffic.pool.links = s.pool.links := by simp only [State.clearTraffic]
  refine cellsInPlace_of_empty ?_ (fun p => ?_) ?_ ?_ (fun p => ?_) ?_
  · simp only [State.clearTraffic]
  · rw [hl]
    exact reserve_of_disabled hs.reserves (disabled p)
  · simp only [State.clearTraffic]
  · simp only [State.clearTraffic]
  · simp only [State.clearTraffic]
    exact hs.rx_of_disabled (disabled p)
  · simp only [State.clearTraffic]
    exact engine

/-- The laws after a reset (R32, R50, R124). -/
theorem cellsInPlace_of_reset {t : State} (free : t.pool.freeList = List.finRange 1024)
    (reserves : t.pool.links = PerLink.const ⟨[], 0, 0⟩) (held : t.pool.held = PerPort.const 0)
    (descs : t.descs = State.reset.descs) (links : t.links = State.reset.links)
    (engine : t.win.engine = .initialising) : CellsInPlace t := by
  refine cellsInPlace_of_empty free (fun p => by rw [reserves, PerLink.get_const]) held descs (fun p => ?_)
    (by rw [engine]; rfl)
  rw [links]
  exact congrArg LinkPort.rx (PerLink.get_const LinkPort.reset p)

theorem cellsInPlace_reset : CellsInPlace State.reset :=
  cellsInPlace_of_reset (by simp only [State.reset, Pool.reset]) rfl rfl rfl rfl rfl

theorem CellsInPlace.move {s t : State} (hs : CellsInPlace s) (h : Move s t) : CellsInPlace t := by
  cases h with
  | keep links owners pool descs =>
    exact hs.keep (hs.stocked.congr pool descs) links (by rw [pool]) fun o d h =>
      ⟨owners o d h, congrArg (·[d]) descs⟩
  | edit old new => exact hs.edit old new
  | @release d x old copies =>
    have hkept : OwnersKept s (s.freeDesc d) :=
      ownersKept_of_engine (s.freeDesc_links d) fun _ => by rw [State.freeDesc_win]; exact id
    exact hs.keep (hs.stocked.freeDesc d) (linksKept_of_eq (s.freeDesc_links d)) (s.freeDesc_poolLinks d)
      fun o e h => ⟨hkept o e h,
        (s.desc_freeDesc d e).trans (if_neg (hs.not_owned_of_copies old copies (hkept o e h)))⟩
  | drop owner links owners pool descs => exact hs.drop owner links owners pool descs
  | store owner old source chain state links owners pool descs =>
    exact hs.store owner old source chain state links owners pool descs
  | enter may rx _ => exact hs.enter may rx
  | giveBack p => exact hs.giveBack p
  | refill eligible => exact hs.refill eligible
  | grant p => exact hs.grant rfl
  | claim _ reserve old new links owners pool descs => exact hs.claim reserve old new links owners pool descs
  | join _ reserve owner old links owners pool descs => exact hs.join reserve owner old links owners pool descs
  | sink _ reserve links owners pool descs => exact hs.sink reserve links owners pool descs
  | send old new cells _ links owners pool descs => exact hs.send old new cells links owners pool descs
  | setting disabled old =>
    rcases poolSetting_cases old with ⟨v, -, rfl⟩ | ⟨p, v, -, rfl⟩ | ⟨p, v, -, -, rfl⟩ <;> exact { hs with }
  | clear disabled engine => exact hs.clear disabled engine
  | reset pool descs links engine =>
    rcases pool with pool | pool <;>
      exact cellsInPlace_of_reset (by simp only [pool, Pool.reset]) (by rw [pool]; rfl) (by rw [pool]; rfl) descs
        links engine

/-- Settles O59: every move keeps the cells in place, and every step is a sequence of moves. -/
theorem stepKeepsCellsInPlace : Obligations.StepKeepsCellsInPlace :=
  fun _ _ hs h => step_keeps CellsInPlace.move hs h

end Sys2Proof.Machine
end

section
/-! PROOFS. The pool's own events: POOL_LOW, releases, the start of a frame, refills, SET_POOL, and the state after a
hard reset (sections 2.5 to 2.11 of the manual). -/

namespace Sys2Proof.Machine

set_option Elab.async false

/-! ## POOL_LOW -/

theorem State.poolLow_iff {s : State} : s.poolLow = true ↔ s.pool.freeList.length < s.pool.floor := by
  rw [State.poolLow, decide_eq_true_eq]

theorem State.poolLow_eq_false_iff {s : State} : s.poolLow = false ↔ s.pool.floor ≤ s.pool.freeList.length := by
  rw [State.poolLow, decide_eq_false_iff_not, not_lt]

theorem State.statusWord_bit10 (s : State) : s.statusWord.getLsbD 10 = s.poolLow := by
  rw [State.statusWord, wordOfBits_getLsbD _ _ (by simp)]
  simp

theorem State.causeWord_bit10 (s : State) : s.causeWord.getLsbD 10 = s.poolLow := by
  rw [State.causeWord, wordOfBits_getLsbD _ _ (by simp)]
  simp

/-- A cause that is set and enabled drives IRQ# (R137). -/
theorem State.irqLow_of_cause {s : State} {i : Nat} (hc : s.causeWord.getLsbD i = true)
    (he : s.win.irqEnable.getLsbD i = true) (hm : s.win.masterEnable = true) (ha : s.win.resetApplied = false) :
    s.irqLow = true := by
  have hand : s.causeWord &&& s.win.irqEnable ≠ 0 := fun h => by
    have hbit := congrArg (·.getLsbD i) h
    simp [BitVec.getLsbD_and, hc, he] at hbit
  rw [State.irqLow, ha, hm, decide_eq_true hand]
  rfl

/-- In a list ordered by `r`, the search finds the element that meets the test when none before it does. -/
theorem find_of_pairwise {ι : Type} {r : ι → ι → Prop} {test : ι → Bool} {l : List ι} {a : ι} (hl : l.Pairwise r)
    (ha : a ∈ l) (htest : test a = true) (hbefore : ∀ b, r b a → test b = false) : l.find? test = some a := by
  obtain ⟨before, after, rfl⟩ := List.append_of_mem ha
  refine List.find?_eq_some_iff_append.2 ⟨htest, before, after, rfl, fun b hb => ?_⟩
  rw [hbefore b ((List.pairwise_append.1 hl).2.2 b hb a (List.mem_cons_self ..))]
  rfl

/-- How far a link lies above the refill pointer + 1, 6 followed by 1 (R22). -/
def refillDistance (pointer p : LinkId) : Nat := (p.num + 5 - pointer.num) % 6

/-- The arbiter searches every link, by rising distance. -/
theorem refillOrder_mem (pointer p : LinkId) : p ∈ refillOrder pointer := by
  cases pointer <;> cases p <;> decide

theorem refillOrder_pairwise (pointer : LinkId) :
    (refillOrder pointer).Pairwise fun p q => refillDistance pointer p < refillDistance pointer q := by
  cases pointer <;> decide

/-- REFILL serves the link whose search comes first. -/
theorem exec_refill_some {s : State} {p : LinkId} (hp : s.refillable p = true)
    (hfirst : ∀ q, s.refillable q = true →
      refillDistance s.pool.refillPointer p ≤ refillDistance s.pool.refillPointer q) :
    exec .refill s = .next (s.refillLink p) := by
  have hfind : (refillOrder s.pool.refillPointer).find? (fun p => s.refillable p) = some p :=
    find_of_pairwise (refillOrder_pairwise _) (refillOrder_mem _ p) hp fun q hq => by
      rw [Bool.eq_false_iff]
      exact fun h => absurd (hfirst q h) (not_le.2 hq)
  simp only [exec, execRefill, hfind]

theorem exec_refill_none {s : State} (h : ∀ p, s.refillable p = false) : exec .refill s = .next s := by
  have hfind : (refillOrder s.pool.refillPointer).find? (fun p => s.refillable p) = none :=
    List.find?_eq_none.2 fun p _ => by rw [h p]; exact Bool.false_ne_true
  simp only [exec, execRefill, hfind]

/-- What REFILL does: nothing, or one refill of a link that may have it. -/
theorem exec_refill_cases {s t : State} (h : exec .refill s = .next t) :
    t = s ∨ ∃ p, s.refillable p = true ∧ t = s.refillLink p := by
  injection h with h
  subst h
  cases hfind : (refillOrder s.pool.refillPointer).find? fun p => s.refillable p with
  | none => exact Or.inl rfl
  | some p => exact Or.inr ⟨p, List.find?_some hfind, rfl⟩

/-- A refill takes one cell, from a free list longer than F (R21, R31). -/
theorem State.refillLink_freeList {s : State} {p : LinkId} (h : s.refillable p = true) :
    (s.refillLink p).pool.freeList.length + 1 = s.pool.freeList.length ∧
      (s.refillLink p).pool.floor = s.pool.floor := by
  obtain ⟨-, -, -, hfree⟩ := State.refillable_iff.1 h
  unfold State.refillLink
  cases hlist : s.pool.freeList with
  | nil => simp [hlist] at hfree
  | cons c rest => exact ⟨rfl, rfl⟩

/-- With the whole store in the free list POOL_LOW is false for every F in its range. -/
theorem State.poolLow_of_full {t : State} (hfree : t.pool.freeList = List.finRange 1024) (hf : t.pool.floor ≤ 256) :
    t.pool.freeList.length = 1024 ∧ t.poolLow = false := by
  have hlen : t.pool.freeList.length = 1024 := by rw [hfree, List.length_finRange]
  exact ⟨hlen, State.poolLow_eq_false_iff.2 (by omega)⟩

/-- Settles O9: the level is a comparison, shown in bit 10 of both words; a refill needs a free list longer than F. -/
theorem poolLowLevel : Obligations.PoolLowLevel := by
  intro s
  refine ⟨State.poolLow_iff, ⟨s.statusWord_bit10, s.causeWord_bit10⟩,
    fun hlow he hm ha => State.irqLow_of_cause (s.causeWord_bit10.trans hlow) he hm ha, fun hf => ?noFloor,
    fun hlow t h => ?refill, fun hlow => ?none, fun hf => ⟨fun t h => ?hard, fun w t ha hw h => ?soft,
      fun t hready hall h => ?clear⟩⟩
  case noFloor => exact State.poolLow_eq_false_iff.2 (by omega)
  case refill =>
    rcases exec_refill_cases h with rfl | ⟨p, hp, rfl⟩
    · exact hlow
    · obtain ⟨hlen, hfloor⟩ := State.refillLink_freeList hp
      obtain ⟨-, -, -, hfree⟩ := State.refillable_iff.1 hp
      exact State.poolLow_eq_false_iff.2 (by omega)
  case none =>
    refine exec_refill_none fun p => Bool.eq_false_iff.2 fun hp => ?_
    obtain ⟨-, -, -, hfree⟩ := State.refillable_iff.1 hp
    exact absurd hfree (not_lt.2 (State.poolLow_iff.1 hlow).le)
  case hard =>
    injection h with h
    subst h
    have hpool : (s.hardResetValues.modWin fun w => { w with resetApplied := true }).pool = Pool.reset := rfl
    exact State.poolLow_of_full (by rw [hpool, Pool.reset]) (by rw [hpool]; decide)
  case soft =>
    injection h with h
    subst h
    have hreset : s.controlWrite w = s.softResetValues := by simp [State.controlWrite, ha, hw]
    have hfree : s.softResetValues.pool.freeList = List.finRange 1024 := by
      simp only [State.softResetValues, State.hardResetValues, State.reset, Pool.reset]
    have hfloor : s.softResetValues.pool.floor = s.pool.floor := by simp only [State.softResetValues]
    rw [hreset]
    exact State.poolLow_of_full hfree (hfloor.trans_le hf)
  case clear =>
    injection h with h
    subst h
    have hall' : s.take.allDisabled = true := hall
    have hrun : s.take.runClearSwitch =
        s.take.clearTraffic.setEngine (.executingClear (192 - s.take.freeDescriptors)) := by
      simp only [State.runClearSwitch, hall', Bool.not_true, Bool.false_eq_true, if_false]
    have hfree : s.take.clearTraffic.pool.freeList = List.finRange 1024 := by simp only [State.clearTraffic]
    have hfloor : s.take.clearTraffic.pool.floor = s.pool.floor := s.take.clearTraffic_relaxes.settings.2.2
    rw [State.commandWrite_ready hready, hrun]
    exact State.poolLow_of_full (t := s.take.clearTraffic) hfree (hfloor.trans_le hf)

/-! ## Releases -/

/-- Freeing a descriptor in use, in full (R27). -/
theorem State.freeDesc_of_some {s : State} {d : DescId} {x : Descriptor} (hx : s.desc d = some x) :
    s.freeDesc d = { s with
      pool := { s.pool with
        freeList := s.pool.freeList ++ x.chain
        held := s.pool.held.set x.source (s.pool.held.get x.source - x.chain.length) }
      descs := s.descs.set d.val none d.isLt } := by
  simp only [State.freeDesc, hx]
  rfl

theorem Descriptor.copyCount_eq_zero_iff {x : Descriptor} : x.copyCount = 0 ↔ ∀ p, x.copies.get p = none := by
  simp only [Descriptor.copyCount, PerPort.toList, List.countP_eq_zero, List.mem_map, forall_exists_index, and_imp,
    forall_apply_eq_imp_iff₂, Bool.not_eq_true, Option.isSome_eq_false_iff, Option.isNone_iff_eq_none]
  exact ⟨fun h p => h p p.mem_all, fun h p _ => h p⟩

/-- The release of a copy by whether another one is left (R46). -/
theorem State.releaseCopy_of_some {s : State} {d : DescId} {x : Descriptor} {p : Port} (hx : s.desc d = some x)
    (hp : x.copies.get p ≠ none) :
    s.releaseCopy p d = if ({ x with copies := x.copies.set p none } : Descriptor).copyCount = 0 then s.freeDesc d
      else s.setDesc d (some { x with copies := x.copies.set p none }) := by
  obtain ⟨c, hc⟩ := Option.ne_none_iff_exists'.1 hp
  simp only [State.releaseCopy, hx, hc]

/-- Settles O15: the release of a copy goes by the copies that are left. -/
theorem releaseOfCopiesAndChains : Obligations.ReleaseOfCopiesAndChains := by
  refine ⟨fun s p => ⟨rfl, fun d ds => rfl⟩, fun s d x hx => ⟨State.freeDesc_of_some hx, fun p hp hothers => ?last,
    fun p q hp hqp hq => ?another, fun p => rfl⟩⟩
  case last =>
    rw [State.releaseCopy_of_some hx hp, if_pos]
    refine Descriptor.copyCount_eq_zero_iff.2 fun q => ?_
    rw [PerPort.get_set]
    split
    · rfl
    · rename_i hq
      exact hothers q hq
  case another =>
    rw [State.releaseCopy_of_some hx hp, if_neg]
    · rfl
    · intro hzero
      have hnone := Descriptor.copyCount_eq_zero_iff.1 hzero q
      rw [PerPort.get_set_ne _ _ hqp] at hnone
      exact hq hnone

/-! ## The start of a frame -/

/-- The search for a FREE descriptor finds the lowest-numbered one (R37). -/
theorem LowestFree.lowestFree {s : State} {d : DescId} (h : LowestFree s d) : s.lowestFree = some d :=
  find_of_pairwise (List.pairwise_lt_finRange 192) (List.mem_finRange d) (by rw [h.1]; rfl) fun e he => by
    rw [Option.isNone_eq_false_iff, Option.isSome_iff_ne_none]
    exact h.2 e he

theorem exec_dataReceived_startFrame {s : State} {p : LinkId} (b : Byte) (hs : (s.links.get p).state = .run)
    (hrx : (s.links.get p).rx = none) :
    exec (.dataReceived p b) s = .next ((s.restartSilence p).startFrame p b) := by
  simp [exec, execDataReceived, hs, State.dataInRun, hrx]

theorem State.claimCell_setLink (s : State) (r : LinkId) (l : LinkPort) (p : LinkId) (q : LinkPool) (d : DescId)
    (c : CellId) : (s.setLink r l).claimCell p q d c = (s.claimCell p q d c).setLink r l := rfl

/-- Settles O25: the group start is refused, or its cell becomes a chain or goes back to the free list. -/
theorem dataStartsAFrame : Obligations.DataStartsAFrame := by
  intro s p b l q hs hrx
  have hexec := exec_dataReceived_startFrame b hs hrx
  refine ⟨fun ho => ?refused, fun o c rest ho hr => ?started⟩
  case refused =>
    have htake : (s.restartSilence p).takeReserveCell p = none := State.takeReserveCell_of_no_credit ho
    rw [State.startFrame_refused htake, State.enterFaulted_restartSilence] at hexec
    exact hexec
  refine ⟨fun d hd hw => ?claims, fun hnone => ?sinks⟩
  case claims =>
    have hfree : (s.restartSilence p).lowestFree = some d := hd.lowestFree
    rw [State.startFrame_claims (s := s.restartSilence p) ho hr hfree, State.restartSilence_eq_setLink,
      State.claimCell_setLink, State.writeFrameByte_setRx_heard] at hexec
    refine ⟨_, hexec, State.writeFrameByte_setLink_frame _ _ _ b p _, ?_⟩
    have haddress : chainAddr? [c] 0 = some (64 * c.val) := by simp [chainAddr?, Config.cellBytes, Nat.mul_comm]
    rw [← haddress]
    exact State.storesOnly_writeFrameByte (s.claimCell p _ d c) [c] 0 b hw
  case sinks =>
    have hfree : (s.restartSilence p).lowestFree = none := State.lowestFree_none.2 hnone
    rw [State.startFrame_sinks (s := s.restartSilence p) ho hr hfree, State.restartSilence_eq_setLink] at hexec
    exact hexec.trans (congrArg _ (State.setRx_setLink_heard ((s.setLinkPool p _).appendFree [c]) p _ _ _))

/-! ## Refills -/

/-- Settles O35: the arbiter's order is the distance from the pointer, and the four conditions are its test. -/
theorem refillServesLinksInTurn : Obligations.RefillServesLinksInTurn := by
  refine ⟨fun c l => ⟨insertCell_perm c l, insertCell_ascending c⟩, fun s => ?_⟩
  intro eligible distance
  refine ⟨?some, ?none⟩
  case some =>
    intro p c rest hp hfirst hfree
    have hserved := exec_refill_some (State.refillable_iff.2 hp) fun q hq =>
      hfirst q (State.refillable_iff.1 hq)
    rw [hserved]
    simp only [State.refillLink, hfree]
  case none =>
    exact fun h => exec_refill_none fun p => Bool.eq_false_iff.2 fun hp => h p (State.refillable_iff.1 hp)

/-! ## SET_POOL -/

theorem exec_setPool_of_ready {s : State} (h : HostReady s) : exec .setPool s = .next s.take.runSetPool :=
  congrArg Host.Outcome.next (State.commandWrite_ready h State.runSetPool)

/-- SET_POOL with every link DISABLED ends by what its three words say (R156). -/
theorem exec_setPool_refused {s : State} (h : HostReady s) (hd : ∀ p, (s.links.get p).state = .disabled)
    (hq : poolSetting s.pool s.win.params = none) :
    exec .setPool s = .next (s.afterCommand .badParam ⟨0, 0, 0, 0⟩) := by
  have hall : s.take.allDisabled = true := State.allDisabled_iff.2 hd
  have hq' : poolSetting s.take.pool s.take.win.taken = none := hq
  rw [exec_setPool_of_ready h, State.runSetPool, hall, hq']
  rfl

theorem exec_setPool_sets {s : State} {q : Pool} (h : HostReady s) (hd : ∀ p, (s.links.get p).state = .disabled)
    (hq : poolSetting s.pool s.win.params = some q) :
    exec .setPool s = .next ({ s with pool := q }.afterCommand .ok ⟨s.win.params.w2, 0, 0, 0⟩) := by
  have hall : s.take.allDisabled = true := State.allDisabled_iff.2 hd
  have hq' : poolSetting s.take.pool s.take.win.taken = some q := hq
  have hresults : results s.take.win.taken.w2.toNat 0 0 0 = ⟨s.win.params.w2, 0, 0, 0⟩ := by
    simp [results, State.take, State.modWin]
  rw [exec_setPool_of_ready h, State.runSetPool, hall, hq']
  simp only [hresults]
  rfl

theorem portOfWord_num {w : Word} {p : Port} (h : w.toNat = p.num) : portOfWord w = some p := by
  rw [portOfWord, h, Port.ofNum_num]

/-- A word above 6 names no port (R181). -/
theorem portOfWord_none {w : Word} (h : 7 ≤ w.toNat) : portOfWord w = none := by
  obtain ⟨k, hk⟩ := Nat.exists_eq_add_of_le' h
  rw [portOfWord, hk]
  rfl

theorem linkOfWord_num {w : Word} {p : LinkId} (h : w.toNat = p.num) : linkOfWord w = some p := by
  have hport : w.toNat = p.port.num := h.trans (by cases p <;> rfl)
  rw [linkOfWord, portOfWord_num hport, Option.bind_some, LinkId.link_port]

/-- The word 0 and a word above 6 name no link (R152). -/
theorem linkOfWord_none {w : Word} (h : w = 0 ∨ 7 ≤ w.toNat) : linkOfWord w = none := by
  rcases h with rfl | h
  · rfl
  · rw [linkOfWord, portOfWord_none h, Option.bind_none]

theorem poolSetting_floor {q : Pool} {w : Words4} (h : w.w0 = 0) :
    poolSetting q w = if w.w2.toNat ≤ 256 then some { q with floor := w.w2.toNat } else none := by
  have h0 : w.w0.toNat = 0 := by rw [h]; rfl
  simp only [poolSetting, h0]

theorem poolSetting_advance {q : Pool} {w : Words4} (h : w.w0 = 1) :
    poolSetting q w = (linkOfWord w.w1).bind fun p =>
      if 1 ≤ w.w2.toNat ∧ w.w2.toNat ≤ 16 then some { q with advance := q.advance.set p w.w2.toNat } else none := by
  have h1 : w.w0.toNat = 1 := by rw [h]; rfl
  simp only [poolSetting, h1]
  cases linkOfWord w.w1 <;> rfl

theorem poolSetting_holdLimit {q : Pool} {w : Words4} (h : w.w0 = 2) :
    poolSetting q w = (portOfWord w.w1).bind fun p =>
      if 16 ≤ w.w2.toNat ∧ w.w2.toNat ≤ 512 ∧ q.held.get p ≤ w.w2.toNat then
        some { q with holdLimit := q.holdLimit.set p w.w2.toNat }
      else none := by
  have h2 : w.w0.toNat = 2 := by rw [h]; rfl
  simp only [poolSetting, h2]
  cases portOfWord w.w1 <;> rfl

/-- A selector above 2 names no setting (R156). -/
theorem poolSetting_other {q : Pool} {w : Words4} (h : 3 ≤ w.w0.toNat) : poolSetting q w = none := by
  obtain ⟨k, hk⟩ := Nat.exists_eq_add_of_le' h
  simp only [poolSetting, hk]

/-- Settles O50: LINKS_ACTIVE first, then the setting that the selector names. -/
theorem setPoolChangesOneSetting : Obligations.SetPoolChangesOneSetting := by
  intro s hready w v bad sets
  refine ⟨fun ⟨p, hp⟩ => ?active, fun hd => ?_⟩
  case active =>
    have hall : s.take.allDisabled = false :=
      Bool.eq_false_iff.2 fun h => hp (State.allDisabled_iff.1 h p)
    rw [exec_setPool_of_ready hready, State.runSetPool, hall]
    rfl
  have hv : w.w2.toNat = v := rfl
  have hbad : poolSetting s.pool w = none → bad := exec_setPool_refused hready hd
  have hsets {q : Pool} : poolSetting s.pool w = some q → sets q := exec_setPool_sets hready hd
  refine ⟨fun h0 => hbad (poolSetting_other h0), fun h0 => ?floor, fun h0 => ?advance, fun h0 => ?holdLimit⟩
  case floor =>
    rw [poolSetting_floor h0] at hbad hsets
    exact ⟨fun hv => hbad (if_neg (not_le.2 hv)), fun hv => hsets (if_pos hv)⟩
  case advance =>
    rw [poolSetting_advance h0] at hbad hsets
    refine ⟨fun h => hbad ?_, fun p hp h1 h16 => hsets ?_⟩
    · rcases h with h | h | h | h
      · rw [linkOfWord_none (Or.inl h), Option.bind_none]
      · rw [linkOfWord_none (Or.inr h), Option.bind_none]
      · exact Option.bind_eq_none_iff.2 fun _ _ => if_neg (by omega)
      · exact Option.bind_eq_none_iff.2 fun _ _ => if_neg (by omega)
    · rw [linkOfWord_num hp, Option.bind_some, if_pos ⟨h1, h16⟩]
  case holdLimit =>
    rw [poolSetting_holdLimit h0] at hbad hsets
    refine ⟨fun h => hbad ?_, fun p hp h16 h512 => ⟨fun hv => hbad ?_, fun hv => hsets ?_⟩⟩
    · rcases h with h | h | h
      · rw [portOfWord_none h, Option.bind_none]
      · exact Option.bind_eq_none_iff.2 fun _ _ => if_neg (by omega)
      · exact Option.bind_eq_none_iff.2 fun _ _ => if_neg (by omega)
    · rw [portOfWord_num hp, Option.bind_some, if_neg (by omega)]
    · rw [portOfWord_num hp, Option.bind_some, if_pos ⟨h16, h512, hv⟩]

end Sys2Proof.Machine
end

section
/-! PROOFS. The state after a hard reset: its values, and the invariants it meets (sections 2.11, 3.10, 4.9, 5.9,
6.11, 7.7 and 9.3 of the manual). -/

namespace Sys2Proof.Machine

set_option Elab.async false

/-! ## The items of the reset state -/

theorem reset_desc (d : DescId) : State.reset.desc d = none := desc_of_replicate rfl d

theorem reset_link (p : LinkId) : State.reset.links.get p = LinkPort.reset := PerLink.get_const _ p

theorem reset_out (p : Port) : State.reset.outs.get p = Output.reset := PerPort.get_const _ p

theorem reset_linkOut (p : LinkId) : State.reset.linkOuts.get p = LinkOutput.reset := PerLink.get_const _ p

theorem reset_rotation (n : EntryId) : State.reset.rotation[n] = .p6 := by
  have h : State.reset.rotation = Vector.replicate 256 .p6 := rfl
  rw [h]
  simp

theorem anchoredEntries_length : anchoredEntries.length = 8 := rfl

/-- Entry `n` after a hard reset is item `n` of the list of R74. -/
theorem reset_entry (n : EntryId) : some State.reset.table[n] = tableResetList[n.val]? := by
  have h : State.reset.table = tableReset := rfl
  have hn : n.val < tableResetList.length := tableResetList_length.symm ▸ n.isLt
  rw [h, List.getElem?_eq_getElem hn]
  simp only [tableReset, Fin.getElem_fin, Vector.getElem_mk, List.getElem_toArray]

/-- The entries 240 to 247 are the anchored ones (R54). -/
theorem reset_entry_anchored (n : EntryId) (k : Fin 8) (h : n.val = 240 + k.val) :
    State.reset.table[n] = anchoredEntries[k.val]'k.isLt := by
  have hk : k.val < anchoredEntries.length := k.isLt
  have hlen : (List.replicate 240 Entry.invalid).length = 240 := List.length_replicate
  have hlt : 240 + k.val < (List.replicate 240 Entry.invalid ++ anchoredEntries).length := by
    rw [List.length_append, hlen]
    omega
  refine Option.some.inj ((reset_entry n).trans ?_)
  rw [h, tableResetList, List.getElem?_append_left hlt, List.getElem?_append_right (by omega), hlen,
    Nat.add_sub_cancel_left]
  exact List.getElem?_eq_getElem hk

/-- Every other entry is INVALID (R74). -/
theorem reset_entry_invalid (n : EntryId) (h : n.val < 240 ∨ 248 ≤ n.val) :
    State.reset.table[n] = Entry.invalid := by
  have hlen : (List.replicate 240 Entry.invalid).length = 240 := List.length_replicate
  have hlen' : (List.replicate 240 Entry.invalid ++ anchoredEntries).length = 248 := by
    rw [List.length_append, hlen, anchoredEntries_length]
  refine Option.some.inj ((reset_entry n).trans ?_)
  rw [tableResetList]
  rcases h with h | h
  · rw [List.append_assoc, List.getElem?_append_left (hlen.symm ▸ h), List.getElem?_replicate_of_lt h]
  · rw [List.getElem?_append_right (by omega), hlen', List.getElem?_replicate_of_lt (by omega)]

/-- Entry 240 + k has the one member k (R54). -/
theorem anchoredEntries_single : ∀ k : Fin 8, k.val ≤ 6 → (anchoredEntries[k.val]'k.isLt).kind = .single ∧
    (anchoredEntries[k.val]'k.isLt).rule = .keep ∧
    (anchoredEntries[k.val]'k.isLt).ports = BitVec.twoPow 7 k.val := by
  decide

/-- The anchored entries have members as their kinds ask (R52). -/
theorem anchoredEntries_members : ∀ k : Fin 8,
    ((anchoredEntries[k.val]'k.isLt).kind = .single ∧ (members (anchoredEntries[k.val]'k.isLt).ports).length = 1) ∨
      ((anchoredEntries[k.val]'k.isLt).kind = .fanout ∧
        1 ≤ (members (anchoredEntries[k.val]'k.isLt).ports).length) := by
  decide

/-- Settles O3: each part at its reset value; the table by the number of the entry. -/
theorem stateAfterHardReset : Obligations.StateAfterHardReset := by
  refine ⟨⟨by simp only [State.reset, Pool.reset], rfl, rfl⟩, fun p => ⟨PerLink.get_const _ p, PerLink.get_const _ p⟩,
    fun p => ⟨PerPort.get_const _ p, PerPort.get_const _ p⟩, ⟨reset_desc, rfl⟩,
    fun n => ⟨reset_rotation n, ?table⟩, fun p => ?out, ⟨rfl, rfl⟩, reset_linkOut, fun p => ?link,
    ⟨rfl, fun p => PerPort.get_const _ p, fun p => PerLink.get_const _ p⟩, ⟨rfl, rfl, rfl, rfl⟩, ⟨rfl, rfl, rfl⟩,
    ⟨rfl, rfl, rfl, rfl⟩⟩
  case table =>
    split
    · rename_i h
      obtain ⟨k, hk⟩ : ∃ k : Fin 8, n.val = 240 + k.val := ⟨⟨n.val - 240, by omega⟩, by simp only; omega⟩
      obtain ⟨hkind, hrule, hports⟩ := anchoredEntries_single k (by omega)
      rw [reset_entry_anchored n k hk]
      refine ⟨hkind, hrule, fun p => ?_⟩
      have hk7 : k.val < 7 := by omega
      have hnum : n.val - 240 = k.val := by omega
      rw [hports, BitVec.getLsbD_twoPow, decide_eq_true hk7, Bool.true_and, hnum]
      exact decide_eq_decide.2 eq_comm
    split
    · rename_i h
      rw [reset_entry_anchored n 7 h]
      exact ⟨rfl, rfl, fun p => by cases p <;> rfl⟩
    · exact reset_entry_invalid n (by omega)
  case out => rw [reset_out]; exact ⟨rfl, rfl, rfl, rfl, rfl⟩
  case link => rw [reset_link]; exact ⟨rfl, rfl, rfl, rfl, rfl, rfl, rfl, rfl, rfl⟩

/-! ## The invariants at reset -/

theorem recordLaws_reset : RecordLaws State.reset := ⟨Nat.zero_le _, Nat.zero_le _⟩

theorem tableLaws_reset : TableLaws State.reset where
  anchored n := reset_entry_anchored ⟨240 + n.val, by omega⟩ n rfl
  pointers n _ := reset_rotation n
  members n := by
    by_cases h : 240 ≤ n.val ∧ n.val < 248
    · obtain ⟨k, hk⟩ : ∃ k : Fin 8, n.val = 240 + k.val := ⟨⟨n.val - 240, by omega⟩, by simp only; omega⟩
      rw [reset_entry_anchored n k hk]
      rcases anchoredEntries_members k with ⟨hkind, h⟩ | ⟨hkind, h⟩ <;> rw [hkind] <;> exact h
    · rw [reset_entry_invalid n (by omega)]
      rfl

theorem outputLaws_reset : OutputLaws State.reset where
  queueCap p := by rw [reset_out]; exact ⟨Nat.zero_le _, Nat.zero_le _⟩
  yieldRun p := by rw [reset_out]; decide
  departingInRun p h := by rw [reset_out] at h; exact absurd rfl h
  openInRun p := by rw [reset_linkOut, reset_link]; decide
  closedWhenDisabled p _ := by rw [reset_linkOut]; rfl
  closedEmpty p _ := by rw [reset_out]; exact ⟨rfl, rfl⟩
  holdTimer p := by rw [reset_linkOut]; decide
  stallTimer p h := by rw [reset_linkOut] at h; exact absurd rfl h
  applied _ := rfl
  hostSlot := ⟨fun h => absurd rfl h, fun ⟨_, h⟩ => by cases h⟩

theorem timerLaws_reset : TimerLaws State.reset where
  silence p := by rw [reset_link]; decide
  sync p := by rw [reset_link]; decide
  recovery p h := by rw [reset_link] at h; exact absurd rfl h
  restart p h := by rw [reset_link] at h; cases h

theorem copyLaws_reset : CopyLaws State.reset where
  once p := by rw [State.owedAt, reset_out]; exact List.nodup_nil
  queued p cls d h := by rw [reset_out] at h; cases cls <;> cases h
  departing p dep h := by rw [reset_out] at h; cases h
  owed p d x c h := by rw [reset_desc] at h; cases h
  storedOwes d x h := by rw [reset_desc] at h; cases h
  assembling d x h := by rw [reset_desc] at h; cases h
  hopZero d x h p hd := by rw [reset_desc] at hd; cases hd

/-- Settles O55, law by law. -/
theorem resetMeetsTheInvariants : Obligations.ResetMeetsTheInvariants :=
  ⟨reset_cells_wf, recordLaws_reset, tableLaws_reset, creditLaws_reset, outputLaws_reset, timerLaws_reset,
    cellsInPlace_reset, copyLaws_reset⟩

end Sys2Proof.Machine
end

section
/-! LAWS. The copies of one output (Law 6, R44, R45, R75 of the manual): what its queues and its slot say of the copy
sets, kept by each change of an output; then the copies and the header of one descriptor (Law 11, R35). -/

namespace Sys2Proof.Machine

-- As in the tests: each elaboration thread takes 1 GiB of the check's memory limit, so the proofs run one after another.
set_option Elab.async false

/-! ## Outputs -/

/-- The copies an output owes: those queued and the one departing (R75). -/
def Output.owed (o : Output) : List DescId := o.queued ++ (o.departing.map (·.desc)).toList

theorem State.owedAt_eq (s : State) (p : Port) : s.owedAt p = (s.outs.get p).owed := by
  unfold State.owedAt Output.owed
  cases (s.outs.get p).departing <;> rfl

theorem Output.mem_queued {o : Output} {d : DescId} : d ∈ o.queued ↔ ∃ cls, d ∈ o.queue cls := by
  refine List.mem_append.trans ⟨?_, fun ⟨cls, h⟩ => ?_⟩
  · rintro (h | h)
    · exact ⟨.express, h⟩
    · exact ⟨.standard, h⟩
  · cases cls with
    | express => exact Or.inl h
    | standard => exact Or.inr h

theorem Output.mem_owed {o : Output} {d : DescId} :
    d ∈ o.owed ↔ (∃ cls, d ∈ o.queue cls) ∨ ∃ dep, o.departing = some dep ∧ dep.desc = d := by
  simp only [Output.owed, List.mem_append, Output.mem_queued, Option.mem_toList,
    Option.map_eq_some_iff]

/-- An output and the copies that the copy sets hold for it say the same (Law 6): a QUEUED copy stands in the class
queue of its class, a DEPARTING copy in the slot, and each frame at most once. -/
structure Output.Agrees (o : Output) (copy : DescId → Option Copy) : Prop where
  once : o.owed.Nodup
  queued : ∀ cls d, d ∈ o.queue cls → copy d = some ⟨cls, .queued⟩
  departing : ∀ dep, o.departing = some dep → copy dep.desc = some ⟨dep.cls, .departing⟩
  owed : ∀ d, copy d ≠ none → d ∈ o.owed

section
variable {o u : Output} {copy : DescId → Option Copy}

theorem Output.Agrees.copy_of_owed (h : o.Agrees copy) {d : DescId} (hd : d ∈ o.owed) : copy d ≠ none := by
  obtain ⟨cls, hq⟩ | ⟨dep, hdep, rfl⟩ := Output.mem_owed.1 hd
  · rw [h.queued cls d hq]
    exact Option.some_ne_none _
  · rw [h.departing dep hdep]
    exact Option.some_ne_none _

/-- Nothing but the yield run, the setting, or where the departing copy stands has changed. -/
theorem Output.Agrees.congr (h : o.Agrees copy) (express : u.express = o.express) (standard : u.standard = o.standard)
    (departing : u.departing.map (fun dep => (dep.desc, dep.cls)) = o.departing.map fun dep => (dep.desc, dep.cls)) :
    u.Agrees copy := by
  have hqueue (cls : Class) : u.queue cls = o.queue cls := by
    cases cls with
    | express => exact express
    | standard => exact standard
  have hdesc : u.departing.map (·.desc) = o.departing.map (·.desc) := by
    simpa only [Option.map_map, Function.comp_def] using congrArg (Option.map Prod.fst) departing
  have howed : u.owed = o.owed := by
    simp only [Output.owed, Output.queued, express, standard, hdesc]
  refine ⟨howed ▸ h.once, fun cls d hd => h.queued cls d (hqueue cls ▸ hd), fun dep hdep => ?_, howed ▸ h.owed⟩
  rw [hdep, Option.map_some, eq_comm, Option.map_eq_some_iff] at departing
  obtain ⟨old, hold, hsame⟩ := departing
  obtain ⟨hd, hcls⟩ := Prod.mk.inj hsame
  rw [← hd, ← hcls]
  exact h.departing old hold

/-- Copies leave the output and the copy sets together. -/
theorem Output.Agrees.without (h : o.Agrees copy) {gone : List DescId} (perm : o.owed.Perm (gone ++ u.owed))
    (queue : ∀ cls, u.queue cls ⊆ o.queue cls) (departing : ∀ dep, u.departing = some dep → o.departing = some dep) :
    u.Agrees fun d => if d ∈ gone then none else copy d := by
  obtain ⟨-, honce, hapart⟩ := List.nodup_append'.1 (perm.nodup_iff.1 h.once)
  have hstays {d : DescId} (hd : d ∈ u.owed) : d ∉ gone := fun hg => hapart hg hd
  refine ⟨honce, fun cls d hd => ?_, fun dep hdep => ?_, fun d hd => ?_⟩
  · rw [if_neg (hstays (Output.mem_owed.2 (Or.inl ⟨cls, hd⟩)))]
    exact h.queued cls d (queue cls hd)
  · rw [if_neg (hstays (Output.mem_owed.2 (Or.inr ⟨dep, hdep, rfl⟩)))]
    exact h.departing dep (departing dep hdep)
  · rw [ite_ne_left_iff] at hd
    exact (List.mem_append.1 (perm.mem_iff.1 (h.owed d hd.2.symm))).resolve_left hd.1

/-- The slot emptied. -/
theorem Output.Agrees.clearSlot (h : o.Agrees copy) {dep : Departure} (hdep : o.departing = some dep) :
    Output.Agrees { o with departing := none } fun d => if d ∈ [dep.desc] then none else copy d := by
  refine h.without ?_ (fun cls => ?_) fun dep h => by cases h
  · have howed : o.owed = o.queued ++ [dep.desc] := by simp [Output.owed, hdep]
    have hleft : Output.owed { o with departing := none } = o.queued := by simp [Output.owed, Output.queued]
    rw [howed, hleft]
    exact List.perm_append_singleton ..
  · cases cls <;> exact List.Subset.refl _

/-- Both queues emptied. -/
theorem Output.Agrees.purge (h : o.Agrees copy) :
    Output.Agrees { o with express := [], standard := [] } fun d => if d ∈ o.queued then none else copy d :=
  h.without (.refl _) (fun cls => by cases cls <;> exact List.nil_subset _) fun _ => id

/-- What taking the next copy does to the copies owed and to the queues. -/
theorem Output.takeNext_owed {d : DescId} {cls : Class} (ht : o.takeNext = some (d, cls, u)) :
    d ∈ o.queue cls ∧ o.owed.Perm (d :: u.owed) ∧ ∀ c, u.queue c ⊆ o.queue c := by
  obtain ⟨hdep, -, ⟨rfl, he, hs⟩ | ⟨rfl, hs, he, -⟩⟩ := Output.takeNext_some ht
  · refine ⟨by simp [Output.queue, he], ?_, fun c => ?_⟩
    · simp [Output.owed, Output.queued, he, hs, hdep]
    · cases c <;> simp [Output.queue, he, hs]
  · refine ⟨by simp [Output.queue, hs], ?_, fun c => ?_⟩
    · have howed : o.owed = o.express ++ d :: (u.standard ++ (o.departing.map (·.desc)).toList) := by
        simp [Output.owed, Output.queued, hs]
      have hrest : u.owed = o.express ++ (u.standard ++ (o.departing.map (·.desc)).toList) := by
        simp [Output.owed, Output.queued, he, hdep]
      rw [howed, hrest]
      exact List.perm_middle
    · cases c <;> simp [Output.queue, he, hs]

/-- The next copy taken. -/
theorem Output.Agrees.takeNext (h : o.Agrees copy) {d : DescId} {cls : Class} (ht : o.takeNext = some (d, cls, u)) :
    u.Agrees fun e => if e ∈ [d] then none else copy e := by
  obtain ⟨-, hperm, hqueue⟩ := Output.takeNext_owed ht
  obtain ⟨hdep, -⟩ := Output.takeNext_some ht
  exact h.without hperm hqueue fun _ h => hdep ▸ h

/-- A copy joins an output that owed none of its frame. -/
theorem Output.Agrees.join (h : o.Agrees copy) {d : DescId} {c : Copy} (hd : d ∉ o.owed)
    (perm : u.owed.Perm (d :: o.owed))
    (queue : ∀ cls e, e ∈ u.queue cls → e ∈ o.queue cls ∨ (e = d ∧ c = ⟨cls, .queued⟩))
    (departing : ∀ dep, u.departing = some dep →
      o.departing = some dep ∨ (dep.desc = d ∧ c = ⟨dep.cls, .departing⟩)) :
    u.Agrees fun e => if e = d then some c else copy e := by
  have hne {e : DescId} (he : e ∈ o.owed) : e ≠ d := fun h => hd (h ▸ he)
  refine ⟨perm.nodup_iff.2 (List.nodup_cons.2 ⟨hd, h.once⟩), fun cls e he => ?_, fun dep hdep => ?_, fun e he => ?_⟩
  · rcases queue cls e he with he | ⟨rfl, rfl⟩
    · rw [if_neg (hne (Output.mem_owed.2 (Or.inl ⟨cls, he⟩)))]
      exact h.queued cls e he
    · rw [if_pos rfl]
  · rcases departing dep hdep with hdep | ⟨rfl, rfl⟩
    · rw [if_neg (hne (Output.mem_owed.2 (Or.inr ⟨dep, hdep, rfl⟩)))]
      exact h.departing dep hdep
    · rw [if_pos rfl]
  · rw [perm.mem_iff, List.mem_cons]
    by_cases hed : e = d
    · exact Or.inl hed
    · rw [if_neg hed] at he
      exact Or.inr (h.owed e he)

/-- The next copy taken goes to the empty slot (R45). -/
theorem Output.Agrees.depart (h : o.Agrees copy) (hslot : o.departing = none) {d : DescId} {cls : Class}
    (ht : o.takeNext = some (d, cls, u)) (k : Nat) (wait : Bool) :
    Output.Agrees { u with departing := some ⟨d, cls, k, wait⟩ } fun e =>
      if e = d then some ⟨cls, .departing⟩ else copy e := by
  obtain ⟨-, hperm, -⟩ := Output.takeNext_owed ht
  obtain ⟨hdep, -⟩ := Output.takeNext_some ht
  have hd : d ∉ u.owed := (List.nodup_cons.1 (hperm.nodup_iff.1 h.once)).1
  have hagrees := (h.takeNext ht).join (u := { u with departing := some ⟨d, cls, k, wait⟩ })
    (c := ⟨cls, .departing⟩) hd ?_ (fun c e he => Or.inl ?_) fun dep hd => ?_
  · have hcopy : (fun e => if e = d then some (⟨cls, .departing⟩ : Copy) else if e ∈ [d] then none else copy e) =
        fun e => if e = d then some ⟨cls, .departing⟩ else copy e := by
      funext e
      by_cases hed : e = d <;> simp [hed]
    exact hcopy ▸ hagrees
  · have howed : u.owed = u.queued := by simp [Output.owed, hdep, hslot]
    rw [howed]
    exact List.perm_append_singleton ..
  · cases c <;> exact he
  · cases hd
    exact Or.inr ⟨rfl, rfl⟩

/-- A copy joins the tail of its class queue (R76). -/
theorem Output.Agrees.append (h : o.Agrees copy) {d : DescId} (hd : copy d = none) (cls : Class) :
    (o.append d cls).Agrees fun e => if e = d then some ⟨cls, .queued⟩ else copy e := by
  refine h.join (fun h' => h.copy_of_owed h' hd) ?_ (fun c e he => ?_) fun dep hdep => Or.inl ?_
  · cases cls with
    | express => simp [Output.append, Output.owed, Output.queued]
    | standard =>
      simpa [Output.append, Output.owed, Output.queued] using List.perm_middle (l₁ := o.express ++ o.standard)
  · cases cls <;> cases c <;> simpa [Output.append, Output.queue] using he
  · cases cls <;> exact hdep

end

/-! ## Descriptors -/

theorem Descriptor.one_le_copyCount_iff {x : Descriptor} : 1 ≤ x.copyCount ↔ ∃ p, x.copies.get p ≠ none := by
  rw [Nat.one_le_iff_ne_zero, Ne, Descriptor.copyCount_eq_zero_iff, not_forall]

/-- A STORED descriptor owes a copy and has a header (R35, R41), and a frame with stored HOPS 0 has no copy at a
link (Law 11). -/
structure Descriptor.Sound (x : Descriptor) : Prop where
  stored : x.state = .stored → 1 ≤ x.copyCount ∧ x.header ≠ none
  hopZero : ∀ h, x.header = some h → h.hops = 0 → ∀ p : LinkId, x.copies.get p.port = none

/-- A frame in assembly has no copy yet (R34). -/
theorem Descriptor.sound_of_assembling {x : Descriptor} (hs : x.state = .assembling)
    (hc : x.copies = PerPort.const none) : x.Sound where
  stored h := by rw [hs] at h; cases h
  hopZero _ _ _ p := by rw [hc, PerPort.get_const]

/-- A descriptor after its copies went on or were released: it got no new one, and owes one still. -/
structure Descriptor.Follows (y x : Descriptor) : Prop where
  state : y.state = x.state
  source : y.source = x.source
  header : y.header = x.header
  owes : 1 ≤ x.copyCount → 1 ≤ y.copyCount
  copies : ∀ p, x.copies.get p = none → y.copies.get p = none

theorem Descriptor.Follows.refl (x : Descriptor) : x.Follows x := ⟨rfl, rfl, rfl, id, fun _ => id⟩

theorem Descriptor.Follows.trans {x y z : Descriptor} (h : z.Follows y) (h' : y.Follows x) : z.Follows x :=
  ⟨h.state.trans h'.state, h.source.trans h'.source, h.header.trans h'.header, h.owes ∘ h'.owes,
    fun p => h.copies p ∘ h'.copies p⟩

theorem Descriptor.Sound.follow {x y : Descriptor} (hx : x.Sound) (h : y.Follows x) : y.Sound where
  stored hs := by
    obtain ⟨howes, hheader⟩ := hx.stored (h.state ▸ hs)
    exact ⟨h.owes howes, h.header ▸ hheader⟩
  hopZero g hg hz p := h.copies p.port (hx.hopZero g (h.header ▸ hg) hz p)

/-- The copy at one output released, with another one left. -/
theorem Descriptor.follows_release {x : Descriptor} {p : Port}
    (hleft : ({ x with copies := x.copies.set p none } : Descriptor).copyCount ≠ 0) :
    Descriptor.Follows { x with copies := x.copies.set p none } x where
  state := rfl
  source := rfl
  header := rfl
  owes _ := Nat.one_le_iff_ne_zero.2 hleft
  copies q hq := by
    rw [PerPort.get_set]
    split
    · rfl
    · exact hq

/-- The copy at one output becomes another one. -/
theorem Descriptor.follows_change {x : Descriptor} {p : Port} (hp : x.copies.get p ≠ none) (c : Copy) :
    Descriptor.Follows { x with copies := x.copies.set p (some c) } x where
  state := rfl
  source := rfl
  header := rfl
  owes _ := Descriptor.one_le_copyCount_iff.2 ⟨p, by simp⟩
  copies q hq := by
    have hne : q ≠ p := fun h => hp (h ▸ hq)
    rw [PerPort.get_set_ne _ _ hne, hq]

/-- A copy entered in the copy set, which makes the descriptor STORED (R43). -/
def Descriptor.place (x : Descriptor) (p : Port) (cls : Class) : Descriptor :=
  { x with state := .stored, copies := x.copies.set p (some ⟨cls, .queued⟩) }

theorem Descriptor.Sound.place {x : Descriptor} (hx : x.Sound) {h : Header} (hh : x.header = some h) {p : Port}
    (hop : hopExcluded h.hops p = false) (cls : Class) : (x.place p cls).Sound where
  stored _ := ⟨Descriptor.one_le_copyCount_iff.2 ⟨p, by simp [Descriptor.place]⟩, by simp [Descriptor.place, hh]⟩
  hopZero g hg hz q := by
    cases hh.symm.trans hg
    have hne : q.port ≠ p := by
      rintro rfl
      simp [hopExcluded, hz] at hop
    exact (PerPort.get_set_ne _ _ hne).trans (hx.hopZero h hh hz q)

end Sys2Proof.Machine
end

section
/-! LAWS. The copy laws of a state in two parts, the copy sets and the owners of the frames in assembly, and what keeps
them: a release, a departure, a copy placed, a change of one frame in assembly (Laws 6, 8 and 11 of the manual). -/

namespace Sys2Proof.Machine

set_option Elab.async false

/-! ## Copies and frames in assembly -/

/-- The copy of frame `d` at output `p`, if its copy set has one (R44). -/
def State.copyAt (s : State) (p : Port) (d : DescId) : Option Copy := (s.desc d).bind fun x => x.copies.get p

theorem State.copyAt_of_some {s : State} {d : DescId} {x : Descriptor} (hx : s.desc d = some x) (p : Port) :
    s.copyAt p d = x.copies.get p := by
  rw [State.copyAt, hx, Option.bind_some]

theorem State.copyAt_of_none {s : State} {d : DescId} (hd : s.desc d = none) (p : Port) : s.copyAt p d = none := by
  rw [State.copyAt, hd, Option.bind_none]

theorem State.copyAt_congr {s t : State} {d : DescId} (h : t.desc d = s.desc d) (p : Port) :
    t.copyAt p d = s.copyAt p d := by
  rw [State.copyAt, h, State.copyAt]

theorem State.copyAt_eq_some {s : State} {p : Port} {d : DescId} {c : Copy} :
    s.copyAt p d = some c ↔ ∃ x, s.desc d = some x ∧ x.copies.get p = some c :=
  Option.bind_eq_some_iff

/-- Port `o` assembles a frame in descriptor `d`, and the frame's header is `h` (R35): the SEND in progress, which has
one, or the frame in progress on a link. -/
def State.Assembles (s : State) (o : Port) (d : DescId) (h : Option Header) : Prop :=
  (o = .p0 ∧ s.win.engine.sendDesc = some d ∧ h ≠ none) ∨
    ∃ p f, o = LinkId.port p ∧ (s.links.get p).rx = some f ∧ f.disposition = .storing d ∧ h = f.header

theorem State.assembles_of_rx {s : State} {p : LinkId} {f : RxFrame} {d : DescId} (hrx : (s.links.get p).rx = some f)
    (hd : f.disposition = .storing d) : s.Assembles p.port d f.header :=
  Or.inr ⟨p, f, rfl, hrx, hd, rfl⟩

/-- The frame a link assembles is the one in progress there. -/
theorem State.Assembles.rx {s : State} {p : LinkId} {d : DescId} {h : Option Header} (ha : s.Assembles p.port d h) :
    ∃ f, (s.links.get p).rx = some f ∧ f.disposition = .storing d ∧ h = f.header := by
  obtain ⟨hp, -⟩ | ⟨q, f, hq, hrx, hd, hh⟩ := ha
  · exact absurd hp p.port_ne_p0
  · cases LinkId.port_inj.1 hq
    exact ⟨f, hrx, hd, hh⟩

/-- The frame that port 0 assembles is the one of the SEND in progress. -/
theorem State.Assembles.send {s : State} {d : DescId} {h : Option Header} (ha : s.Assembles .p0 d h) :
    s.win.engine.sendDesc = some d ∧ h ≠ none := by
  obtain ⟨-, hsend, hh⟩ | ⟨q, -, hq, -⟩ := ha
  · exact ⟨hsend, hh⟩
  · exact absurd hq.symm q.port_ne_p0

/-- A frame in assembly after a change that leaves its owner alone. -/
theorem State.Assembles.congr {s t : State} {o : Port} {d : DescId} {h : Option Header} (ha : s.Assembles o d h)
    (hl : t.links = s.links) (he : t.win.engine.sendDesc = s.win.engine.sendDesc) : t.Assembles o d h := by
  unfold State.Assembles
  rw [hl, he]
  exact ha

/-- A frame in assembly after a write of one link port, where the port still stores it if it did before. -/
theorem State.Assembles.setLink {s t : State} {o : Port} {d : DescId} {h : Option Header} (ha : s.Assembles o d h)
    {p : LinkId} {l : LinkPort} (hl : t.links = s.links.set p l) (he : t.win.engine = s.win.engine)
    (hrx : ∀ f, (s.links.get p).rx = some f → f.disposition = .storing d →
      ∃ g, l.rx = some g ∧ g.disposition = .storing d ∧ g.header = f.header) : t.Assembles o d h := by
  obtain ⟨ho, hsend, hh⟩ | ⟨q, f, ho, hf, hd, hh⟩ := ha
  · exact Or.inl ⟨ho, he ▸ hsend, hh⟩
  by_cases hq : q = p
  · subst hq
    obtain ⟨g, hg, hgd, hgh⟩ := hrx f hf hd
    exact Or.inr ⟨q, g, ho, by rw [hl, PerLink.get_set_self, hg], hgd, hh.trans hgh.symm⟩
  · exact Or.inr ⟨q, f, ho, by rw [hl, PerLink.get_set_ne _ _ hq, hf], hd, hh⟩

/-! ## The two parts of the laws -/

/-- The part of `CopyLaws` that speaks of the outputs and the descriptors alone. -/
structure CopySets (s : State) : Prop where
  agrees : ∀ p, (s.outs.get p).Agrees (s.copyAt p)
  sound : ∀ d x, s.desc d = some x → x.Sound

theorem CopyLaws.sets {s : State} (h : CopyLaws s) : CopySets s where
  agrees p := {
    once := s.owedAt_eq p ▸ h.once p
    queued := fun cls d hd => State.copyAt_eq_some.2 (h.queued p cls d hd)
    departing := fun dep hdep => State.copyAt_eq_some.2 (h.departing p dep hdep)
    owed := fun d hd => by
      obtain ⟨c, hc⟩ := Option.ne_none_iff_exists'.1 hd
      obtain ⟨x, hx, hcopy⟩ := State.copyAt_eq_some.1 hc
      exact s.owedAt_eq p ▸ h.owed p d x c hx hcopy }
  sound d x hx := ⟨h.storedOwes d x hx, fun g hg hz p => h.hopZero d x g p hx hg hz⟩

theorem CopyLaws.assembles {s : State} (h : CopyLaws s) {d : DescId} {x : Descriptor} (hx : s.desc d = some x)
    (hs : x.state = .assembling) : s.Assembles x.source d x.header := by
  rcases h.assembling d x hx hs with hsend | hrx
  · exact Or.inl hsend
  · exact Or.inr hrx

/-- The laws from their two parts. -/
theorem CopySets.laws {s : State} (h : CopySets s)
    (assembles : ∀ d x, s.desc d = some x → x.state = .assembling → s.Assembles x.source d x.header) :
    CopyLaws s where
  once p := s.owedAt_eq p ▸ (h.agrees p).once
  queued p cls d hd := State.copyAt_eq_some.1 ((h.agrees p).queued cls d hd)
  departing p dep hdep := State.copyAt_eq_some.1 ((h.agrees p).departing dep hdep)
  owed p d x c hx hc := by
    rw [s.owedAt_eq p]
    exact (h.agrees p).owed d (by rw [State.copyAt_of_some hx, hc]; exact Option.some_ne_none c)
  storedOwes d x hx := (h.sound d x hx).stored
  assembling d x hx hs := assembles d x hx hs
  hopZero d x g p hx hg hz := (h.sound d x hx).hopZero g hg hz p

theorem CopySets.congr {s t : State} (h : CopySets s) (outs : t.outs = s.outs) (descs : t.descs = s.descs) :
    CopySets t where
  agrees p := by
    have hcopy : t.copyAt p = s.copyAt p := funext fun d => State.copyAt_congr (congrArg (·[d]) descs) p
    rw [outs, hcopy]
    exact h.agrees p
  sound d x hx := h.sound d x ((congrArg (·[d]) descs).symm.trans hx)

/-- The laws after a change of neither outputs nor descriptors that leaves every frame in assembly to its owner. -/
theorem CopyLaws.owned {s t : State} (h : CopyLaws s) (outs : t.outs = s.outs) (descs : t.descs = s.descs)
    (owners : ∀ o d g, s.Assembles o d g → t.Assembles o d g) : CopyLaws t := by
  refine (h.sets.congr outs descs).laws fun d x hx hs => owners _ _ _ (h.assembles ?_ hs)
  exact (congrArg (·[d]) descs).symm.trans hx

/-- The laws after a change in which no output, descriptor, link port or engine takes part. -/
theorem CopyLaws.same {s t : State} (h : CopyLaws s) (outs : t.outs = s.outs) (descs : t.descs = s.descs)
    (links : t.links = s.links) (engine : t.win.engine = s.win.engine) : CopyLaws t :=
  h.owned outs descs fun _ _ _ ha => ha.congr links (by rw [engine])

/-- The engine changes, and the SEND in progress does not. -/
theorem CopyLaws.engine {s t : State} (h : CopyLaws s) (outs : t.outs = s.outs) (descs : t.descs = s.descs)
    (links : t.links = s.links) (engine : t.win.engine.sendDesc = s.win.engine.sendDesc) : CopyLaws t :=
  h.owned outs descs fun _ _ _ ha => ha.congr links engine

/-- One link port changes, and not the frame in progress there. -/
theorem CopyLaws.modLink {s : State} (h : CopyLaws s) {p : LinkId} {f : LinkPort → LinkPort}
    (hrx : (f (s.links.get p)).rx = (s.links.get p).rx) : CopyLaws (s.modLink p f) :=
  h.owned rfl rfl fun _ _ _ ha => ha.setLink rfl rfl fun g hg hd => ⟨g, hrx.trans hg, hd, rfl⟩

/-- The laws with no descriptor in use and no copy owed. -/
theorem copyLaws_of_empty {t : State} (descs : ∀ d, t.desc d = none) (outs : ∀ p, (t.outs.get p).owed = []) :
    CopyLaws t := by
  have hnone {p : Port} {d : DescId} (hd : d ∈ (t.outs.get p).owed) : False := by
    rw [outs p] at hd
    cases hd
  refine CopySets.laws ⟨fun p => ⟨?_, fun cls d hd => ?_, fun dep hdep => ?_, fun d hd => ?_⟩, fun d x hx => ?_⟩
    fun d x hx _ => ?_
  · rw [outs p]
    exact List.nodup_nil
  · exact (hnone (Output.mem_owed.2 (Or.inl ⟨cls, hd⟩))).elim
  · exact (hnone (Output.mem_owed.2 (Or.inr ⟨dep, hdep, rfl⟩))).elim
  · exact absurd (State.copyAt_of_none (descs d) p) hd
  · rw [descs] at hx
    cases hx
  · rw [descs] at hx
    cases hx

/-! ## Releases and departures -/

/-- Every descriptor in use follows from the one before: its copies went on or were released, and it owes one still. -/
def State.Follows (t s : State) : Prop := ∀ d y, t.desc d = some y → ∃ x, s.desc d = some x ∧ y.Follows x

theorem State.follows_of_descs {s t : State} (h : t.descs = s.descs) : t.Follows s := fun d y hy =>
  ⟨y, (congrArg (·[d]) h).symm.trans hy, .refl y⟩

theorem State.Follows.trans {s t u : State} (h : u.Follows t) (h' : t.Follows s) : u.Follows s := fun d z hz => by
  obtain ⟨y, hy, hzy⟩ := h d z hz
  obtain ⟨x, hx, hyx⟩ := h' d y hy
  exact ⟨x, hx, hzy.trans hyx⟩

theorem State.follows_setDesc {s : State} {d : DescId} {x y : Descriptor} (hx : s.desc d = some x)
    (h : y.Follows x) : (s.setDesc d (some y)).Follows s := fun e z hz => by
  rw [State.desc_setDesc] at hz
  split at hz
  · rename_i he
    cases hz
    exact ⟨x, he ▸ hx, h⟩
  · exact ⟨z, hz, .refl z⟩

theorem State.follows_freeDesc (s : State) (d : DescId) : (s.freeDesc d).Follows s := fun e z hz => by
  rw [State.desc_freeDesc] at hz
  split at hz
  · cases hz
  · exact ⟨z, hz, .refl z⟩

/-- The laws after copies went on or were released, with outputs that agree. -/
theorem CopyLaws.follow {s t : State} (h : CopyLaws s) (ht : t.Follows s)
    (agrees : ∀ p, (t.outs.get p).Agrees (t.copyAt p)) (links : t.links = s.links)
    (engine : t.win.engine = s.win.engine) : CopyLaws t := by
  refine CopySets.laws ⟨agrees, fun d y hy => ?_⟩ fun d y hy hs => ?_ <;> obtain ⟨x, hx, hyx⟩ := ht d y hy
  · exact (h.sets.sound d x hx).follow hyx
  · rw [hyx.source, hyx.header]
    exact (h.assembles hx (hyx.state ▸ hs)).congr links (by rw [engine])

/-- One output changed, with the copies at it. -/
theorem CopyLaws.agrees_set {s t : State} (h : CopyLaws s) {p : Port} {o : Output} (outs : t.outs = s.outs.set p o)
    (ho : o.Agrees (t.copyAt p)) (others : ∀ q, q ≠ p → t.copyAt q = s.copyAt q) (q : Port) :
    (t.outs.get q).Agrees (t.copyAt q) := by
  rw [outs, PerPort.get_set]
  split
  · rename_i hq
    rw [hq]
    exact ho
  · rename_i hq
    rw [others q hq]
    exact h.sets.agrees q

/-- The yield run or the setting of an output changes, or where its departing copy stands. -/
theorem CopyLaws.setOut {s : State} (h : CopyLaws s) {p : Port} {o : Output}
    (express : o.express = (s.outs.get p).express) (standard : o.standard = (s.outs.get p).standard)
    (departing : o.departing.map (fun dep => (dep.desc, dep.cls)) =
      (s.outs.get p).departing.map fun dep => (dep.desc, dep.cls)) : CopyLaws (s.setOut p o) :=
  h.follow (State.follows_of_descs rfl)
    (h.agrees_set rfl ((h.sets.agrees p).congr express standard departing) fun _ _ => rfl) rfl rfl

theorem State.releaseCopy_of_none {s : State} {p : Port} {d : DescId} (h : s.copyAt p d = none) :
    s.releaseCopy p d = s := by
  unfold State.releaseCopy
  cases hx : s.desc d with
  | none => rfl
  | some x =>
    rw [State.copyAt_of_some hx] at h
    simp only [h]

/-- The released copy leaves its copy set; every other copy stands, for with the last copy there is no other. -/
theorem State.copyAt_releaseCopy (s : State) (p q : Port) (d e : DescId) :
    (s.releaseCopy p d).copyAt q e = if q = p ∧ e = d then none else s.copyAt q e := by
  by_cases he : e = d
  case neg =>
    rw [if_neg fun h => he h.2]
    exact State.copyAt_congr (s.desc_releaseCopy_ne p he) q
  subst he
  cases hp : s.copyAt p e with
  | none =>
    rw [State.releaseCopy_of_none hp]
    split
    · rename_i h
      rw [h.1, hp]
    · rfl
  | some c =>
    obtain ⟨x, hx, hc⟩ := State.copyAt_eq_some.1 hp
    rw [State.releaseCopy_of_some hx (by simp [hc]), State.copyAt_of_some hx]
    have hset : x.copies.get q = (x.copies.set p none).get q ∨ q = p := by
      by_cases hq : q = p
      · exact Or.inr hq
      · exact Or.inl (PerPort.get_set_ne _ _ hq).symm
    split
    · rename_i hzero
      have hnone := Descriptor.copyCount_eq_zero_iff.1 hzero q
      rw [State.copyAt_of_none (by rw [State.desc_freeDesc, if_pos rfl])]
      split
      · rfl
      · rename_i hq
        rw [hset.resolve_right fun h => hq ⟨h, rfl⟩]
        exact hnone.symm
    · rw [State.copyAt_of_some (State.desc_setDesc_self ..), PerPort.get_set]
      simp

theorem State.copyAt_releaseAll (s : State) (p q : Port) (ds : List DescId) (e : DescId) :
    (s.releaseAll p ds).copyAt q e = if q = p ∧ e ∈ ds then none else s.copyAt q e := by
  induction ds generalizing s with
  | nil => simp [State.releaseAll]
  | cons d rest ih =>
    rw [State.releaseAll, ih, State.copyAt_releaseCopy]
    by_cases hq : q = p <;> by_cases he : e = d <;> simp [hq, he]

theorem State.releaseCopy_follows (s : State) (p : Port) (d : DescId) : (s.releaseCopy p d).Follows s := by
  cases hp : s.copyAt p d with
  | none =>
    rw [State.releaseCopy_of_none hp]
    exact State.follows_of_descs rfl
  | some c =>
    obtain ⟨x, hx, hc⟩ := State.copyAt_eq_some.1 hp
    rw [State.releaseCopy_of_some hx (by simp [hc])]
    split
    · exact s.follows_freeDesc d
    · rename_i hleft
      exact State.follows_setDesc hx (Descriptor.follows_release hleft)

theorem State.releaseAll_follows (s : State) (p : Port) (ds : List DescId) : (s.releaseAll p ds).Follows s := by
  induction ds generalizing s with
  | nil => exact State.follows_of_descs rfl
  | cons d rest ih => exact (ih _).trans (s.releaseCopy_follows p d)

/-- Copies leave an output and are released (R46). -/
theorem CopyLaws.release {s : State} (h : CopyLaws s) {p : Port} {o : Output} {ds : List DescId}
    (ho : o.Agrees fun d => if d ∈ ds then none else s.copyAt p d) : CopyLaws ((s.setOut p o).releaseAll p ds) := by
  have hcopy (q : Port) : ((s.setOut p o).releaseAll p ds).copyAt q =
      fun d => if q = p ∧ d ∈ ds then none else s.copyAt q d :=
    funext ((s.setOut p o).copyAt_releaseAll p q ds)
  refine h.follow ((State.releaseAll_follows _ p ds).trans (State.follows_of_descs rfl))
    (h.agrees_set (p := p) (o := o) (by simp) ?_ fun q hq => ?_) (by simp) (by simp)
  · rw [hcopy]
    simpa only [true_and] using ho
  · rw [hcopy]
    simp only [hq, false_and, if_false]

theorem CopyLaws.purge {s : State} (h : CopyLaws s) (p : Port) : CopyLaws (s.purge p) :=
  h.release (h.sets.agrees p).purge

/-- The departing copy leaves the slot and is released. -/
theorem CopyLaws.releaseDeparting {s : State} (h : CopyLaws s) {p : Port} {dep : Departure}
    (hdep : (s.outs.get p).departing = some dep) : CopyLaws ((s.clearSlot p).releaseCopy p dep.desc) :=
  h.release (ds := [dep.desc]) ((h.sets.agrees p).clearSlot hdep)

/-- The next copy is released without passing through the slot (R149). -/
theorem CopyLaws.releaseNext {s : State} (h : CopyLaws s) {p : Port} {d : DescId} {cls : Class} {o : Output}
    (ht : (s.outs.get p).takeNext = some (d, cls, o)) : CopyLaws ((s.setOut p o).releaseCopy p d) :=
  h.release (ds := [d]) ((h.sets.agrees p).takeNext ht)

theorem State.markDeparting_of_some {s : State} {p : Port} {d : DescId} {x : Descriptor} {c : Copy}
    (hx : s.desc d = some x) (hc : x.copies.get p = some c) : s.markDeparting p d =
      s.setDesc d (some { x with copies := x.copies.set p (some { c with state := .departing }) }) := by
  simp only [State.markDeparting, hx, hc]

theorem State.markDeparting_frame (s : State) (p : Port) (d : DescId) :
    s.markDeparting p d = { s with descs := (s.markDeparting p d).descs } := by
  unfold State.markDeparting
  cases s.desc d with
  | none => rfl
  | some x =>
    simp only
    cases x.copies.get p <;> rfl

/-- Marking a copy DEPARTING reads and writes the descriptors alone. -/
theorem State.markDeparting_setOut (s : State) (p q : Port) (o : Output) (d : DescId) :
    (s.setOut q o).markDeparting p d = (s.markDeparting p d).setOut q o := by
  have hdesc : (s.setOut q o).desc d = s.desc d := rfl
  unfold State.markDeparting
  rw [hdesc]
  cases s.desc d with
  | none => rfl
  | some x =>
    simp only
    cases x.copies.get p <;> rfl

@[simp] theorem State.markDeparting_outs (s : State) (p : Port) (d : DescId) : (s.markDeparting p d).outs = s.outs :=
  (congrArg State.outs (s.markDeparting_frame p d)).trans rfl
@[simp] theorem State.markDeparting_links (s : State) (p : Port) (d : DescId) :
    (s.markDeparting p d).links = s.links := (congrArg State.links (s.markDeparting_frame p d)).trans rfl
@[simp] theorem State.markDeparting_win (s : State) (p : Port) (d : DescId) : (s.markDeparting p d).win = s.win :=
  (congrArg State.win (s.markDeparting_frame p d)).trans rfl

/-- The next copy goes to the empty slot, and becomes DEPARTING in its copy set (R45). -/
theorem CopyLaws.depart {s t : State} (h : CopyLaws s) {p : Port} {d : DescId} {cls : Class} {o : Output}
    (hslot : (s.outs.get p).departing = none) (ht : (s.outs.get p).takeNext = some (d, cls, o)) {k : Nat}
    {wait : Bool} (outs : t.outs = s.outs.set p { o with departing := some ⟨d, cls, k, wait⟩ })
    (descs : t.descs = (s.markDeparting p d).descs) (links : t.links = s.links)
    (engine : t.win.engine = s.win.engine) : CopyLaws t := by
  obtain ⟨x, hx, hc⟩ := h.queued p cls d (Output.takeNext_owed ht).1
  rw [State.markDeparting_of_some hx hc] at descs
  have hcopy (q : Port) (e : DescId) :
      t.copyAt q e = if q = p ∧ e = d then some ⟨cls, .departing⟩ else s.copyAt q e := by
    have hdesc := congrArg (·[e]) descs
    rw [State.copyAt_congr hdesc]
    by_cases he : e = d
    · subst he
      rw [State.copyAt_of_some (State.desc_setDesc_self ..), State.copyAt_of_some hx, PerPort.get_set]
      simp
    · rw [State.copyAt_congr (s.desc_setDesc_ne _ he), if_neg fun h => he h.2]
  refine h.follow ((State.follows_of_descs descs).trans (State.follows_setDesc hx
    (Descriptor.follows_change (by simp [hc]) _))) (h.agrees_set outs ?_ fun q hq => ?_) links engine
  · rw [funext (hcopy p)]
    simpa only [true_and] using (h.sets.agrees p).depart hslot ht k wait
  · funext e
    rw [hcopy, if_neg fun h => hq h.1]

/-! ## Copies placed -/

/-- One copy placed at an output that has none of its frame (R43, R70). -/
theorem CopySets.placeCopy {s : State} (hs : CopySets s) {d : DescId} {x : Descriptor} {h : Header} {p : Port}
    (hx : s.desc d = some x) (hh : x.header = some h) (hp : x.copies.get p = none)
    (hop : hopExcluded h.hops p = false) (cls : Class) : CopySets (s.placeCopy d cls p) := by
  have hplace : s.placeCopy d cls p =
      (s.setOut p ((s.outs.get p).append d cls)).setDesc d (some (x.place p cls)) := by
    rw [State.placeCopy_eq, hx]
    rfl
  have hcopy (q : Port) (e : DescId) :
      (s.placeCopy d cls p).copyAt q e = if q = p ∧ e = d then some ⟨cls, .queued⟩ else s.copyAt q e := by
    rw [hplace]
    by_cases he : e = d
    · subst he
      rw [State.copyAt_of_some (State.desc_setDesc_self ..), State.copyAt_of_some hx, Descriptor.place,
        PerPort.get_set]
      simp
    · rw [State.copyAt_congr (State.desc_setDesc_ne _ _ he), if_neg fun h => he h.2]
      rfl
  have houts : (s.placeCopy d cls p).outs = s.outs.set p ((s.outs.get p).append d cls) := by rw [hplace]; rfl
  refine ⟨fun q => ?_, fun e y hy => ?_⟩
  · rw [houts, funext (hcopy q), PerPort.get_set]
    by_cases hq : q = p
    · subst hq
      simpa using (hs.agrees q).append ((State.copyAt_of_some hx q).trans hp) cls
    · simpa [hq] using hs.agrees q
  · rw [hplace, State.desc_setDesc] at hy
    split at hy
    · cases hy
      exact (hs.sound d x hx).place hh hop cls
    · exact hs.sound e y hy

/-- Copies placed at outputs that have none of the frame, each once (R70). -/
theorem CopySets.placeCopies {s : State} (hs : CopySets s) {d : DescId} {x : Descriptor} {h : Header}
    {ps : List Port} (hx : s.desc d = some x) (hh : x.header = some h) (hps : ps.Nodup)
    (hnone : ∀ p ∈ ps, x.copies.get p = none) (hop : ∀ p ∈ ps, hopExcluded h.hops p = false) (cls : Class) :
    CopySets (s.placeCopies d cls ps) := by
  induction ps generalizing s x with
  | nil => exact hs
  | cons p rest ih =>
    obtain ⟨hp, hrest⟩ := List.nodup_cons.1 hps
    obtain ⟨hnone_p, hnone_rest⟩ := List.forall_mem_cons.1 hnone
    obtain ⟨hop_p, hop_rest⟩ := List.forall_mem_cons.1 hop
    have hplaced : (s.placeCopy d cls p).desc d = some (x.place p cls) := by
      rw [State.placeCopy_eq, hx]
      exact State.desc_setDesc_self ..
    refine ih (hs.placeCopy hx hh hnone_p hop_p cls) hplaced hh hrest (fun q hq => ?_) hop_rest
    have hne : q ≠ p := fun h => hp (h ▸ hq)
    exact (PerPort.get_set_ne _ _ hne).trans (hnone_rest q hq)

/-- Once a copy is placed, the descriptor is STORED. -/
theorem State.placeCopies_stored {s : State} {d : DescId} {ps : List Port} (hps : ps ≠ []) (cls : Class)
    {y : Descriptor} (hy : (s.placeCopies d cls ps).desc d = some y) : y.state = .stored := by
  cases ps with
  | nil => exact absurd rfl hps
  | cons p rest =>
    have hdesc {t u : State} {z : Option Descriptor} (h : t.descs = (u.setDesc d z).descs) : t.desc d = z :=
      (congrArg (·[d]) h).trans (u.desc_setDesc_self d z)
    rcases (s.placeCopy d cls p).placeCopies_descs d cls rest with h | ⟨x, z, -, -, -, hz, h⟩
    · rcases s.placeCopy_descs d cls p with ⟨hnone, h'⟩ | ⟨x, z, -, -, -, hz, h'⟩
      · have hd : s.desc d = some y := (congrArg (·[d]) (h.trans h')).symm.trans hy
        rw [hnone] at hd
        cases hd
      · cases (hdesc (h.trans h')).symm.trans hy
        exact hz
    · cases (hdesc h).symm.trans hy
      exact hz

/-! ## Frames in assembly -/

/-- The copy sets after a change of one descriptor that gives or takes no copy. -/
theorem CopySets.change {s t : State} (h : CopySets s) {d : DescId} (outs : t.outs = s.outs)
    (others : ∀ e, e ≠ d → t.desc e = s.desc e) (copies : ∀ p, t.copyAt p d = s.copyAt p d)
    (own : ∀ y, t.desc d = some y → y.Sound) : CopySets t := by
  refine ⟨fun p => ?_, fun e y hy => ?_⟩
  · have hcopy : t.copyAt p = s.copyAt p := funext fun e => by
      by_cases he : e = d
      · rw [he, copies]
      · exact State.copyAt_congr (others e he) p
    rw [outs, hcopy]
    exact h.agrees p
  · by_cases he : e = d
    · exact own y (he ▸ hy)
    · exact h.sound e y (others e he ▸ hy)

/-- The owners of the frames in assembly after a change of one of them. -/
theorem CopyLaws.assembles_change {s t : State} (h : CopyLaws s) {d : DescId}
    (others : ∀ e, e ≠ d → t.desc e = s.desc e) (owners : ∀ o e g, e ≠ d → s.Assembles o e g → t.Assembles o e g)
    (own : ∀ y, t.desc d = some y → y.state = .assembling → t.Assembles y.source d y.header) (e : DescId)
    (y : Descriptor) (hy : t.desc e = some y) (hs : y.state = .assembling) : t.Assembles y.source e y.header := by
  by_cases he : e = d
  · subst he
    exact own y hy hs
  · exact owners _ _ _ he (h.assembles (others e he ▸ hy) hs)

/-- The laws after a change of one frame in assembly: its descriptor is sound and has its owner, or is none. -/
theorem CopyLaws.change {s t : State} (h : CopyLaws s) {d : DescId} (outs : t.outs = s.outs)
    (others : ∀ e, e ≠ d → t.desc e = s.desc e) (copies : ∀ p, t.copyAt p d = s.copyAt p d)
    (owners : ∀ o e g, e ≠ d → s.Assembles o e g → t.Assembles o e g)
    (own : ∀ y, t.desc d = some y → y.Sound ∧ (y.state = .assembling → t.Assembles y.source d y.header)) :
    CopyLaws t :=
  (h.sets.change outs others copies fun y hy => (own y hy).1).laws
    (h.assembles_change others owners fun y hy => (own y hy).2)

/-- A frame in assembly has no copy at any output (R34). -/
theorem CellsInPlace.copyAt_of_assembling {s : State} (hs : CellsInPlace s) {d : DescId} {x : Descriptor}
    (hx : s.desc d = some x) (hstate : x.state = .assembling) (p : Port) : s.copyAt p d = none := by
  rw [State.copyAt_of_some hx, hs.noCopies d x hx hstate, PerPort.get_const]

/-- A frame in assembly is freed, and its owner gives it up or knows it no more (R27). -/
theorem CopyLaws.drop {s t : State} (h : CopyLaws s) (hs : CellsInPlace s) {o : Port} {d : DescId}
    (owner : s.Owns o d) (outs : t.outs = s.outs) (descs : t.descs = (s.freeDesc d).descs)
    (owners : ∀ o e g, e ≠ d → s.Assembles o e g → t.Assembles o e g) : CopyLaws t := by
  obtain ⟨x, hx, hstate, -⟩ := hs.owner owner
  have hdesc (e : DescId) : t.desc e = if e = d then none else s.desc e :=
    (congrArg (·[e]) descs).trans (s.desc_freeDesc d e)
  have hfree : t.desc d = none := (hdesc d).trans (if_pos rfl)
  refine h.change outs (fun e he => (hdesc e).trans (if_neg he)) (fun p => ?_) owners fun y hy => ?_
  · rw [State.copyAt_of_none hfree, hs.copyAt_of_assembling hx hstate]
  · rw [hfree] at hy
    cases hy

/-- A FREE descriptor takes a new frame in assembly (R37, R38). -/
theorem CopyLaws.allocated {s t : State} (h : CopyLaws s) {d : DescId} {x : Descriptor} {o : Port}
    {chain : List CellId} (old : s.desc d = none) (new : x.Assembles o chain) (outs : t.outs = s.outs)
    (descs : t.descs = (s.setDesc d (some x)).descs) (own : t.Assembles o d x.header)
    (owners : ∀ o e g, e ≠ d → s.Assembles o e g → t.Assembles o e g) : CopyLaws t := by
  have hdesc (e : DescId) : t.desc e = if e = d then some x else s.desc e :=
    (congrArg (·[e]) descs).trans (s.desc_setDesc d e _)
  have hd : t.desc d = some x := (hdesc d).trans (if_pos rfl)
  refine h.change outs (fun e he => (hdesc e).trans (if_neg he)) (fun p => ?_) owners fun y hy => ?_
  · rw [State.copyAt_of_some hd, State.copyAt_of_none old, new.copies, PerPort.get_const]
  · cases hd.symm.trans hy
    exact ⟨Descriptor.sound_of_assembling new.state new.copies, fun _ => new.source.symm ▸ own⟩

/-- The descriptor of a frame in assembly gets its header or another cell. -/
theorem CopyLaws.edit {s t : State} (h : CopyLaws s) (hs : CellsInPlace s) {o : Port} {d : DescId}
    {x y : Descriptor} (owner : s.Owns o d) (old : s.desc d = some x) (state : y.state = x.state)
    (source : y.source = x.source) (copies : y.copies = x.copies) (outs : t.outs = s.outs)
    (descs : t.descs = (s.setDesc d (some y)).descs) (own : t.Assembles o d y.header)
    (owners : ∀ o e g, e ≠ d → s.Assembles o e g → t.Assembles o e g) : CopyLaws t := by
  obtain ⟨x', hx', hstate, hsource⟩ := hs.owner owner
  cases old.symm.trans hx'
  have hdesc (e : DescId) : t.desc e = if e = d then some y else s.desc e :=
    (congrArg (·[e]) descs).trans (s.desc_setDesc d e _)
  have hd : t.desc d = some y := (hdesc d).trans (if_pos rfl)
  refine h.change outs (fun e he => (hdesc e).trans (if_neg he)) (fun p => ?_) owners fun z hz => ?_
  · rw [State.copyAt_of_some hd, State.copyAt_of_some old, copies]
  · cases hd.symm.trans hz
    exact ⟨Descriptor.sound_of_assembling (state.trans hstate) (copies.trans (hs.noCopies d x old hstate)),
      fun _ => (source.trans hsource).symm ▸ own⟩

end Sys2Proof.Machine
end

section
/-! LAWS. The copy laws under the shared operations: releases and purges, links lost and entered, route resolution, and
the characters of a frame in progress. -/

namespace Sys2Proof.Machine

set_option Elab.async false

/-! ## The engine under the operations of a link and of an output -/

@[simp] theorem State.dropDeparting_win (s : State) (p : LinkId) : (s.dropDeparting p).win = s.win := by
  unfold State.dropDeparting
  cases (s.outs.get p.port).departing with
  | none => rfl
  | some dep => simp

theorem State.flushOutput_win (s : State) (p : Port) : (s.flushOutput p).win = s.win := by
  unfold State.flushOutput
  cases p.link? <;> simp

@[simp] theorem State.loseFrame_win (s : State) (p : LinkId) : (s.loseFrame p).win = s.win := by
  cases hrx : (s.links.get p).rx with
  | none => rw [State.loseFrame_none hrx]
  | some f =>
    rw [State.loseFrame_some hrx, State.dropFrame]
    cases f.disposition <;> simp

@[simp] theorem State.returnReserve_win (s : State) (p : LinkId) : (s.returnReserve p).win = s.win := rfl

@[simp] theorem State.purgeLost_win (s : State) (p : LinkId) : (s.purgeLost p).win = s.win := by
  unfold State.purgeLost
  simp only
  split <;> simp

theorem State.outputAtFault_win (s : State) (p : LinkId) : (s.outputAtFault p).win = s.win := by
  unfold State.outputAtFault
  cases (s.outs.get p.port).departing <;> simp only <;> split <;> simp

/-- Entry to FAULTED leaves the engine alone. -/
theorem State.enterFaulted_engine (s : State) (p : LinkId) (kind : FaultKind) (lost : Option (Option Header)) :
    (s.enterFaulted p kind lost).win.engine = s.win.engine := by
  unfold State.enterFaulted
  simp only
  split
  · rw [State.outputAtFault_win]
    split <;> simp
  · split <;> simp

theorem State.closeLink_engine (s : State) (p : LinkId) : (s.closeLink p).win.engine = s.win.engine := by
  unfold State.closeLink
  simp only
  split <;> simp

theorem State.disableLink_engine (s : State) (p : LinkId) : (s.disableLink p).win.engine = s.win.engine := by
  rcases s.disableLink_cases p with ⟨-, hd⟩ | ⟨-, hd⟩ <;> rw [hd]
  exact s.closeLink_engine p

theorem State.enableLink_win (s : State) (p : LinkId) : (s.enableLink p).win = s.win := by
  unfold State.enableLink
  cases (s.links.get p).state with
  | disabled | listen | sync | run => rfl
  | faulted => cases (s.links.get p).recoveryTimer <;> rfl

theorem State.restartLink_engine (s : State) (p : LinkId) : (s.restartLink p).win.engine = s.win.engine := by
  unfold State.restartLink
  cases (s.links.get p).state with
  | disabled | listen => rfl
  | sync | run => exact s.enterFaulted_engine ..
  | faulted => exact congrArg Window.engine (s.enableLink_win p)

/-! ## Releases and purges -/

theorem CopyLaws.countLost {s : State} (h : CopyLaws s) (p : Port) (n : Nat) : CopyLaws (s.countLost p n) :=
  h.same rfl rfl rfl rfl

theorem CopyLaws.countDelivered {s : State} (h : CopyLaws s) (p : Port) : CopyLaws (s.countDelivered p) :=
  h.same rfl rfl rfl rfl

theorem CopyLaws.record {s : State} (h : CopyLaws s) (r : Record) : CopyLaws (s.record r) :=
  h.same rfl rfl rfl rfl

theorem CopyLaws.setLinkOut {s : State} (h : CopyLaws s) (p : LinkId) (o : LinkOutput) : CopyLaws (s.setLinkOut p o) :=
  h.same rfl rfl rfl rfl

theorem CopyLaws.setQueueState {s : State} (h : CopyLaws s) (p : LinkId) (q : QueueState) (hold : Timer) :
    CopyLaws (s.setQueueState p q hold) :=
  h.setLinkOut ..

theorem CopyLaws.dropDeparting {s : State} (h : CopyLaws s) (p : LinkId) : CopyLaws (s.dropDeparting p) := by
  unfold State.dropDeparting
  cases hdep : (s.outs.get p.port).departing with
  | none => exact h
  | some dep =>
    have hstall : CopyLaws (s.stopStall p) := h.setLinkOut ..
    exact hstall.releaseDeparting hdep

theorem CopyLaws.dropHostCopy {s : State} (h : CopyLaws s) {dep : Departure} (hdep : s.outs.p0.departing = some dep) :
    CopyLaws (s.dropHostCopy dep) :=
  h.releaseDeparting (p := .p0) hdep

theorem CopyLaws.purgeLost {s : State} (h : CopyLaws s) (p : LinkId) : CopyLaws (s.purgeLost p) := by
  unfold State.purgeLost
  simp only
  split
  · exact h.purge p.port
  · exact ((h.purge p.port).countLost ..).record _

theorem CopyLaws.outputAtFault {s : State} (h : CopyLaws s) (p : LinkId) : CopyLaws (s.outputAtFault p) := by
  have hcut : CopyLaws (match (s.outs.get p.port).departing with
      | none => s
      | some _ => (s.dropDeparting p).countLost p.port 1) := by
    cases (s.outs.get p.port).departing with
    | none => exact h
    | some dep => exact (h.dropDeparting p).countLost ..
  unfold State.outputAtFault
  simp only
  split
  · exact (hcut.purgeLost p).setQueueState ..
  · exact hcut.setQueueState ..

/-! ## Frames lost -/

/-- What holds of the cells holds after a sequence of moves. -/
theorem CellsInPlace.moves {s t : State} (hs : CellsInPlace s) (h : Moves s t) : CellsInPlace t := by
  induction h with
  | refl => exact hs
  | tail _ hm ih => exact ih.move hm

/-- A frame is in progress only in RUN. -/
theorem CellsInPlace.rx_none {s : State} (hs : CellsInPlace s) {p : LinkId} (hp : (s.links.get p).state ≠ .run) :
    (s.links.get p).rx = none := by
  by_contra h
  exact hp (hs.inFrame p h)

/-- The link port is written with no frame in progress before. -/
theorem CopyLaws.setLink_idle {s t : State} (h : CopyLaws s) {p : LinkId} {l : LinkPort}
    (hrx : (s.links.get p).rx = none) (outs : t.outs = s.outs) (descs : t.descs = s.descs)
    (links : t.links = s.links.set p l) (engine : t.win.engine = s.win.engine) : CopyLaws t :=
  h.owned outs descs fun _ _ _ ha => ha.setLink links engine fun f hf => by rw [hrx] at hf; cases hf

/-- The owners of the other frames in assembly stand, whatever becomes of the frame in progress on one link. -/
theorem State.Assembles.others {s t : State} {o : Port} {d e : DescId} {g : Option Header} (ha : s.Assembles o e g)
    {p : LinkId} {f : RxFrame} {l : LinkPort} (hrx : (s.links.get p).rx = some f) (hd : f.disposition = .storing d)
    (he : e ≠ d) (links : t.links = s.links.set p l) (engine : t.win.engine = s.win.engine) : t.Assembles o e g :=
  ha.setLink links engine fun f' hf' hd' => by
    cases hrx.symm.trans hf'
    cases hd.symm.trans hd'
    exact absurd rfl he

/-- The frame in progress given up, its cells returned if it was STORING (R27). -/
theorem CopyLaws.dropFrame {s : State} (h : CopyLaws s) (hs : CellsInPlace s) {p : LinkId} {f : RxFrame}
    (hrx : (s.links.get p).rx = some f) (l : LinkPort) : CopyLaws ((s.dropFrame f).setLink p l) := by
  unfold State.dropFrame
  cases hd : f.disposition with
  | storing d =>
    exact h.drop hs (State.owns_of_rx hrx hd) (s.freeDesc_outs d) rfl fun o e g he ha =>
      ha.others (l := l) hrx hd he (by simp) (by simp)
  | sinkingNoDescriptor | sinkingSurplus =>
    refine h.owned rfl rfl fun _ _ _ ha => ha.setLink rfl rfl fun f' hf' hd' => ?_
    cases hrx.symm.trans hf'
    cases hd.symm.trans hd'

theorem CopyLaws.loseFrame {s : State} (h : CopyLaws s) (hs : CellsInPlace s) (p : LinkId) :
    CopyLaws (s.loseFrame p) := by
  cases hrx : (s.links.get p).rx with
  | none =>
    rw [State.loseFrame_none hrx]
    exact h
  | some f =>
    rw [State.loseFrame_some hrx]
    exact h.dropFrame hs hrx _

/-- A link loses its frame and its reserve, and its port is written (R114, R119). -/
theorem CopyLaws.leave {s : State} (h : CopyLaws s) (hs : CellsInPlace s) (p : LinkId) {f : LinkPort → LinkPort}
    (hrx : ∀ l, (f l).rx = l.rx) : CopyLaws (((s.loseFrame p).returnReserve p).modLink p f) := by
  have hreserve : CopyLaws ((s.loseFrame p).returnReserve p) := (h.loseFrame hs p).same rfl rfl rfl rfl
  exact hreserve.modLink (hrx _)

theorem CopyLaws.latchLinkChange {s : State} (h : CopyLaws s) : CopyLaws s.latchLinkChange :=
  h.same rfl rfl rfl rfl

theorem CopyLaws.enterFaulted {s : State} (h : CopyLaws s) (hs : CellsInPlace s) (p : LinkId) (kind : FaultKind)
    (lost : Option (Option Header)) : CopyLaws (s.enterFaulted p kind lost) := by
  have hrecord {c : Prop} [Decidable c] {u : State} (hu : CopyLaws u) (r : Record) :
      CopyLaws (if c then u else u.record r) := by
    split
    · exact hu
    · exact hu.record r
  have hcount {u : State} (hu : CopyLaws u) : CopyLaws (u.countLinkFault p) := hu.same rfl rfl rfl rfl
  have houtput {c : Bool} {u : State} (hu : CopyLaws u) : CopyLaws (if c then u.outputAtFault p else u) := by
    cases c
    · exact hu
    · exact hu.outputAtFault p
  unfold State.enterFaulted
  refine houtput (hcount (hrecord ?_ _)).latchLinkChange
  exact h.leave hs p fun _ => rfl

theorem CopyLaws.fault {s : State} (h : CopyLaws s) (hs : CellsInPlace s) (p : LinkId) (kind : FaultKind) :
    CopyLaws (s.fault p kind) :=
  h.enterFaulted hs ..

theorem CopyLaws.closeLink {s : State} (h : CopyLaws s) (hs : CellsInPlace s) (p : LinkId) :
    CopyLaws (s.closeLink p) := by
  have hlatch {c : Bool} {u : State} (hu : CopyLaws u) : CopyLaws (if c then u.latchLinkChange else u) := by
    cases c
    · exact hu
    · exact hu.latchLinkChange
  unfold State.closeLink
  refine ((((hlatch ?_).dropDeparting p).purge p.port).countLost ..).setQueueState ..
  exact h.leave hs p fun _ => rfl

theorem CopyLaws.disableLink {s : State} (h : CopyLaws s) (hs : CellsInPlace s) (p : LinkId) :
    CopyLaws (s.disableLink p) := by
  rcases s.disableLink_cases p with ⟨-, hd⟩ | ⟨-, hd⟩ <;> rw [hd]
  · exact h
  · exact h.closeLink hs p

/-! ## Links entered -/

theorem CopyLaws.enterListen {s : State} (h : CopyLaws s) {p : LinkId} (hrx : (s.links.get p).rx = none) :
    CopyLaws (s.enterListen p) :=
  h.setLink_idle hrx rfl rfl rfl rfl

theorem CopyLaws.enterSync {s : State} (h : CopyLaws s) {p : LinkId} (hrx : (s.links.get p).rx = none) :
    CopyLaws (s.enterSync p) :=
  h.setLink_idle hrx rfl rfl rfl rfl

theorem CopyLaws.enterRun {s : State} (h : CopyLaws s) {p : LinkId} (hrx : (s.links.get p).rx = none) (n : Nat) :
    CopyLaws (s.enterRun p n) :=
  h.setLink_idle hrx rfl rfl rfl rfl

theorem CopyLaws.enableLink {s : State} (h : CopyLaws s) (hs : CellsInPlace s) (p : LinkId) :
    CopyLaws (s.enableLink p) := by
  unfold State.enableLink
  cases hstate : (s.links.get p).state with
  | disabled => exact h.enterListen (hs.rx_none (by simp [hstate]))
  | listen | sync | run => exact h
  | faulted =>
    cases (s.links.get p).recoveryTimer with
    | running us => exact h.modLink rfl
    | stopped => exact h.enterListen (hs.rx_none (by simp [hstate]))

theorem CopyLaws.restartLink {s : State} (h : CopyLaws s) (hs : CellsInPlace s) (p : LinkId) :
    CopyLaws (s.restartLink p) := by
  unfold State.restartLink
  cases (s.links.get p).state with
  | disabled | listen => exact h
  | sync | run => exact h.fault hs ..
  | faulted => exact h.enableLink hs p

/-! ## Route resolution -/

/-- The candidates are members that no exclusion step removed, and there is one (R60). -/
theorem State.candidates_ok {s : State} {source : Port} {hops : BitVec 4} {cls : Class} {ms cands : List Port}
    (h : s.candidates source hops cls ms = .ok cands) :
    cands ≠ [] ∧ cands.Sublist ms ∧ ∀ p ∈ cands, hopExcluded hops p = false := by
  unfold State.candidates at h
  simp only at h
  split at h
  · cases h
  split at h
  · cases h
  split at h
  · cases h
  split at h
  · cases h
  rename_i hleft
  cases h
  refine ⟨fun hnil => hleft (List.isEmpty_iff.2 hnil), ?_, fun p hp => ?_⟩
  · exact (((List.filter_sublist ..).trans (List.filter_sublist ..)).trans (List.filter_sublist ..)).trans
      (List.filter_sublist ..)
  · simp only [List.mem_filter] at hp
    simpa using hp.1.1.2

/-- The SPREAD choice is one of the candidates (R65). -/
theorem State.spreadChoice_mem {s : State} {pointer p : Port} {cands : List Port}
    (h : s.spreadChoice pointer cands = some p) : p ∈ cands := by
  unfold State.spreadChoice at h
  have hleast := List.mem_of_mem_filter (List.contains_iff_mem.1 (List.find?_some h))
  split at hleast
  · exact hleast
  · exact List.mem_of_mem_filter hleast

/-- A resolution that places copies has an output for them, each once, and no link for a frame with HOPS 0 (R60,
R61). -/
theorem State.decideRoute_place {s : State} {source : Port} {h : Header} {outputs : List Port}
    {refused : List (Port × Code)} {pointer : Option Port}
    (hd : s.decideRoute source h = .place outputs refused pointer) :
    outputs ≠ [] ∧ outputs.Nodup ∧ ∀ p ∈ outputs, hopExcluded h.hops p = false := by
  have hmembers : (members (s.entry h.dest).ports).Nodup := List.Nodup.filter _ (by decide)
  have hall {cls : Class} {cands : List Port}
      (hc : s.candidates source h.hops cls (members (s.entry h.dest).ports) = .ok cands) :
      cands ≠ [] ∧ cands.Nodup ∧ ∀ p ∈ cands, hopExcluded h.hops p = false := by
    obtain ⟨hne, hsub, hop⟩ := State.candidates_ok hc
    exact ⟨hne, hmembers.sublist hsub, hop⟩
  unfold State.decideRoute at hd
  simp only at hd
  split at hd
  · cases hd
  · split at hd
    · cases hd
    · rename_i hc
      cases hd
      exact hall hc
  · split at hd
    · cases hd
    · rename_i hc
      split at hd
      · rename_i hchoice
        cases hd
        refine ⟨List.cons_ne_nil _ _, List.nodup_singleton _, fun p hp => ?_⟩
        rw [List.mem_singleton.1 hp]
        exact (hall hc).2.2 _ (State.spreadChoice_mem hchoice)
      · cases hd
  · split at hd
    · cases hd
    · rename_i hc
      cases hd
      exact hall hc

@[simp] theorem State.reportAllRefused_outs (s : State) (source : Port) (h : Header) (ms : List (Port × Code)) :
    (s.reportAllRefused source h ms).outs = s.outs :=
  (congrArg State.outs (s.reportAllRefused_frame source h ms)).trans rfl

/-- What a resolution does to the outputs and the descriptors: the frame is freed, or its copies are placed as
`State.decideRoute_place` says. -/
theorem State.resolve_sets (s : State) (d : DescId) (o : Port) (h : Header) :
    ((s.resolve d o h).2.outs = s.outs ∧ (s.resolve d o h).2.descs = (s.freeDesc d).descs) ∨
      ∃ outputs cls, (outputs ≠ [] ∧ outputs.Nodup ∧ ∀ p ∈ outputs, hopExcluded h.hops p = false) ∧
        (s.resolve d o h).2.outs = ((s.countFrameIn o).placeCopies d cls outputs).outs ∧
        (s.resolve d o h).2.descs = ((s.countFrameIn o).placeCopies d cls outputs).descs := by
  unfold State.resolve
  cases hd : s.decideRoute o h with
  | discard cause =>
    have hfree := (State.freeDesc_congr (s := s) (u := s.countFrameIn o) rfl rfl d).2
    simp only
    split <;> exact Or.inl ⟨by simp, hfree⟩
  | place outputs refused pointer =>
    refine Or.inr ⟨outputs, copyClass (s.entry h.dest).rule h.cls, State.decideRoute_place hd, ?_⟩
    cases pointer <;> simp

/-- A frame in assembly is resolved: it becomes copies or is freed (R58, R70). -/
theorem CopySets.resolve {s : State} (hs : CopySets s) {d : DescId} {x : Descriptor} {h : Header}
    (hx : s.desc d = some x) (hcopies : x.copies = PerPort.const none) (hh : x.header = some h) (o : Port) :
    CopySets (s.resolve d o h).2 := by
  have hnone (p : Port) : x.copies.get p = none := by rw [hcopies, PerPort.get_const]
  rcases s.resolve_sets d o h with ⟨houts, hdescs⟩ | ⟨outputs, cls, ⟨-, honce, hop⟩, houts, hdescs⟩
  · have hdesc (e : DescId) : (s.resolve d o h).2.desc e = if e = d then none else s.desc e :=
      (congrArg (·[e]) hdescs).trans (s.desc_freeDesc d e)
    have hfree := (hdesc d).trans (if_pos rfl)
    refine hs.change (d := d) houts (fun e he => (hdesc e).trans (if_neg he)) (fun p => ?_) fun y hy => ?_
    · rw [State.copyAt_of_none hfree, State.copyAt_of_some hx, hnone]
    · rw [hfree] at hy
      cases hy
  · have hcount : CopySets (s.countFrameIn o) := hs.congr rfl rfl
    exact (hcount.placeCopies hx hh honce (fun p _ => hnone p) hop cls).congr houts hdescs

/-- After its resolution a frame is no longer in assembly, and every other descriptor stands. -/
theorem State.resolve_desc (s : State) (d : DescId) (o : Port) (h : Header) :
    (∀ y, (s.resolve d o h).2.desc d = some y → y.state = .stored) ∧
      ∀ e, e ≠ d → (s.resolve d o h).2.desc e = s.desc e := by
  rcases s.resolve_sets d o h with ⟨-, hdescs⟩ | ⟨outputs, cls, ⟨hne, -⟩, -, hdescs⟩
  · have hdesc (e : DescId) : (s.resolve d o h).2.desc e = if e = d then none else s.desc e :=
      (congrArg (·[e]) hdescs).trans (s.desc_freeDesc d e)
    refine ⟨fun y hy => ?_, fun e he => (hdesc e).trans (if_neg he)⟩
    rw [hdesc, if_pos rfl] at hy
    cases hy
  · have hdesc (e : DescId) :
        (s.resolve d o h).2.desc e = ((s.countFrameIn o).placeCopies d cls outputs).desc e := congrArg (·[e]) hdescs
    refine ⟨fun y hy => State.placeCopies_stored hne cls (hdesc d ▸ hy), fun e he => (hdesc e).trans ?_⟩
    rcases (s.countFrameIn o).placeCopies_descs d cls outputs with hsame | ⟨x, y, -, -, -, -, hset⟩
    · exact congrArg (·[e]) hsame
    · exact (congrArg (·[e]) hset).trans (State.desc_setDesc_ne _ _ he)

/-- A frame in assembly is resolved, and its owner gives it up in the same event. `u` is the state in which the
resolution is taken. -/
theorem CopyLaws.resolve {s u t : State} (h : CopyLaws s) (hs : CellsInPlace s) {o : Port} {d : DescId}
    {g : Header} (owner : s.Owns o d) (header : ∀ x, s.desc d = some x → x.header = some g)
    (uo : u.outs = s.outs) (ud : u.descs = s.descs) (outs : t.outs = (u.resolve d o g).2.outs)
    (descs : t.descs = (u.resolve d o g).2.descs)
    (owners : ∀ o e g, e ≠ d → s.Assembles o e g → t.Assembles o e g) : CopyLaws t := by
  obtain ⟨x, hx, hstate, -⟩ := hs.owner owner
  obtain ⟨hstored, hothers⟩ := u.resolve_desc d o g
  have hdesc (e : DescId) : t.desc e = (u.resolve d o g).2.desc e := congrArg (·[e]) descs
  have hu (e : DescId) : u.desc e = s.desc e := congrArg (·[e]) ud
  have hsets := (h.sets.congr uo ud).resolve ((hu d).trans hx) (hs.noCopies d x hx hstate) (header x hx) o
  refine (hsets.congr outs descs).laws (h.assembles_change (d := d) (fun e he => ?_) owners fun y hy hy' => ?_)
  · exact ((hdesc e).trans (hothers e he)).trans (hu e)
  · have hy'' := hstored y ((hdesc d).symm.trans hy)
    rw [hy'] at hy''
    cases hy''

/-! ## Characters received -/

/-- The descriptor of a STORING frame is in assembly for it, with the header its receiver holds (R35). -/
theorem CopyLaws.storing {s : State} (h : CopyLaws s) (hs : CellsInPlace s) {p : LinkId} {f : RxFrame} {d : DescId}
    (hrx : (s.links.get p).rx = some f) (hd : f.disposition = .storing d) :
    ∃ x, s.desc d = some x ∧ x.header = f.header := by
  obtain ⟨x, hx, hstate, hsource⟩ := hs.storing p f d hrx hd
  obtain ⟨f', hf', -, hh⟩ := (hsource ▸ h.assembles hx hstate : s.Assembles p.port d x.header).rx
  cases hrx.symm.trans hf'
  exact ⟨x, hx, hh⟩

/-- The frame in progress goes on with the same disposition and header. -/
theorem CopyLaws.setRx {s : State} (h : CopyLaws s) {p : LinkId} {f g : RxFrame} (hrx : (s.links.get p).rx = some f)
    (hd : g.disposition = f.disposition) (hh : g.header = f.header) : CopyLaws (s.setRx p (some g)) :=
  h.owned rfl rfl fun _ _ _ ha => ha.setLink rfl rfl fun f' hf' hd' => by
    cases hrx.symm.trans hf'
    exact ⟨g, rfl, hd.trans hd', hh⟩

/-- A byte of the frame in progress is stored, and the frame goes on. -/
theorem CopyLaws.storeByte_setRx {s : State} (h : CopyLaws s) {p : LinkId} {f g : RxFrame}
    (hrx : (s.links.get p).rx = some f) (hd : g.disposition = f.disposition) (hh : g.header = f.header) (b : Byte) :
    CopyLaws ((s.storeByte f b).setRx p (some g)) := by
  rw [State.storeByte_frame]
  exact (h.setRx hrx hd hh).same rfl rfl rfl rfl

/-- DATA at position 0 in RUN with no frame in progress. -/
theorem CopyLaws.startFrame {s : State} (h : CopyLaws s) (hs : CellsInPlace s) {p : LinkId}
    (hrx : (s.links.get p).rx = none) (b : Byte) : CopyLaws (s.startFrame p b) := by
  rcases s.takeReserveCell_cases p with hnone | ⟨o, c, rest, ho, hr, -⟩
  · rw [State.startFrame_refused hnone]
    exact h.enterFaulted hs ..
  cases hfree : s.lowestFree with
  | none =>
    rw [State.startFrame_sinks ho hr hfree]
    exact h.setLink_idle hrx rfl rfl rfl rfl
  | some d =>
    rw [State.startFrame_claims ho hr hfree, State.writeFrameByte_frame]
    refine h.allocated (State.lowestFree_spec hfree) (o := p.port) (chain := [c]) ⟨rfl, rfl, rfl, rfl⟩ rfl rfl ?_
      fun _ _ _ _ ha => ha.setLink (p := p) rfl rfl fun f hf => by rw [hrx] at hf; cases hf
    exact State.assembles_of_rx (f := .first b (.storing d)) (by simp) rfl

/-- The header enters the descriptor of a STORING frame in the event in which its receiver knows it (R11). -/
theorem CopyLaws.giveHeader {s : State} (h : CopyLaws s) (hs : CellsInPlace s) {p : LinkId} {f g : RxFrame}
    (hrx : (s.links.get p).rx = some f) (hd : g.disposition = f.disposition) {hdr : Header}
    (hh : g.header = some hdr) (b : Byte) :
    CopyLaws (((s.giveHeader f hdr).storeByte f b).setRx p (some g)) := by
  rw [State.storeByte_frame]
  cases hdisp : f.disposition with
  | storing d =>
    obtain ⟨x, hx, -⟩ := hs.storing p f d hrx hdisp
    have hgive : s.giveHeader f hdr = s.setDesc d (some { x with header := some hdr }) := by
      simp only [State.giveHeader, hdisp, hx]
    rw [hgive]
    refine h.edit hs (State.owns_of_rx hrx hdisp) hx (y := { x with header := some hdr }) rfl rfl rfl rfl rfl ?_
      fun _ _ _ he ha => ha.others hrx hdisp he rfl rfl
    exact hh ▸ State.assembles_of_rx (by simp) (hd.trans hdisp)
  | sinkingNoDescriptor | sinkingSurplus =>
    have hgive : s.giveHeader f hdr = s := by simp only [State.giveHeader, hdisp]
    rw [hgive]
    refine h.owned rfl rfl fun _ _ _ ha => ha.setLink rfl rfl fun f' hf' hd' => ?_
    cases hrx.symm.trans hf'
    cases hdisp.symm.trans hd'

theorem CopyLaws.headerData {s : State} (h : CopyLaws s) (hs : CellsInPlace s) {p : LinkId} {f : RxFrame}
    (hrx : (s.links.get p).rx = some f) (b : Byte) : CopyLaws (s.headerData p f b) := by
  by_cases h3 : f.position < 3
  · rw [State.headerData_early _ _ _ _ h3]
    exact h.storeByte_setRx hrx (by rfl) (by rfl) b
  · rw [State.headerData_late _ _ _ _ h3]
    simp only
    split
    · exact h.enterFaulted hs ..
    · exact h.giveHeader hs hrx (by rfl) (by rfl) b

/-- DATA below the stored size: a byte stored, or a group start with its cell joined, sunk or refused. -/
theorem CopyLaws.bodyData {s : State} (h : CopyLaws s) (hs : CellsInPlace s) {p : LinkId} {f : RxFrame}
    (hrx : (s.links.get p).rx = some f) (hsurplus : f.disposition ≠ .sinkingSurplus) {g : Header}
    (hlt : f.position < g.size) (b : Byte) : CopyLaws (s.bodyData p f g b) := by
  by_cases hg : f.position % 64 = 0
  case neg =>
    rw [State.bodyData_within _ _ _ _ _ hg]
    exact h.storeByte_setRx hrx (by rfl) (by rfl) b
  rcases s.takeReserveCell_cases p with hnone | ⟨o, c, rest, ho, hr, -⟩
  · have hfault : s.bodyData p f g b = s.fault p .rxOverrun := by
      simp only [State.bodyData, isGroupStart_of_mod hg hlt, hnone, if_true]
    rw [hfault]
    exact h.fault hs ..
  cases hd : f.disposition with
  | sinkingSurplus => exact absurd hd hsurplus
  | sinkingNoDescriptor =>
    rw [s.bodyData_sinks p f g b hg hlt ho hr hd]
    exact (h.setRx hrx (g := f.fed b) rfl rfl).same rfl rfl rfl rfl
  | storing d =>
    obtain ⟨x, hx, hh⟩ := h.storing hs hrx hd
    rw [s.bodyData_joins p f g b hg hlt ho hr hd hx, State.writeFrameByte_frame]
    refine h.edit hs (State.owns_of_rx hrx hd) hx (y := { x with chain := x.chain ++ [c] }) rfl rfl rfl rfl rfl ?_
      fun _ _ _ he ha => ha.others hrx hd he rfl rfl
    exact hh ▸ State.assembles_of_rx (f := f.fed b) (by simp) hd

/-- A discard at reception, with the link port written before or after it. -/
theorem CopyLaws.discardAtReception {s : State} (h : CopyLaws s) (hs : CellsInPlace s) {p : LinkId} {f : RxFrame}
    (hrx : (s.links.get p).rx = some f) (cause : Code) (l : LinkPort) :
    CopyLaws ((s.discardAtReception p f cause).setLink p l) := by
  rw [State.discardAtReception_eq]
  exact (h.dropFrame hs hrx l).same rfl rfl rfl rfl

theorem CopyLaws.setRx_none_discard {s : State} (h : CopyLaws s) (hs : CellsInPlace s) {p : LinkId} {f : RxFrame}
    (hrx : (s.links.get p).rx = some f) (cause : Code) :
    CopyLaws ((s.setRx p none).discardAtReception p f cause) := by
  rw [State.setRx, State.modLink, State.discardAtReception_setLink]
  exact h.discardAtReception hs hrx cause _

/-- The frame in progress ends with nothing of it stored. -/
theorem CopyLaws.setRx_none {s : State} (h : CopyLaws s) {p : LinkId} {f : RxFrame}
    (hrx : (s.links.get p).rx = some f) (hd : ∀ d, f.disposition ≠ .storing d) : CopyLaws (s.setRx p none) :=
  h.owned rfl rfl fun _ d _ ha => ha.setLink rfl rfl fun f' hf' hd' => by
    cases hrx.symm.trans hf'
    exact absurd hd' (hd d)

theorem CopyLaws.knownData {s : State} (h : CopyLaws s) (hs : CellsInPlace s) {p : LinkId} {f : RxFrame}
    (hrx : (s.links.get p).rx = some f) (hsurplus : f.disposition ≠ .sinkingSurplus) (g : Header) (b : Byte) :
    CopyLaws (s.knownData p f g b) := by
  rcases lt_or_ge f.position g.size with hlt | hge
  · rw [State.knownData_body _ _ _ _ _ hlt]
    exact h.bodyData hs hrx hsurplus hlt b
  by_cases h0 : f.position = g.size
  · rw [State.knownData_checkHigh _ _ _ _ _ h0]
    exact h.setRx hrx (by rfl) (by rfl)
  by_cases h1 : f.position = g.size + 1
  · rw [State.knownData_checkLow _ _ _ _ _ h1]
    exact h.setRx hrx (by rfl) (by rfl)
  · rw [State.knownData_surplus _ _ _ _ _ (by omega), State.setRx, State.modLink]
    exact h.discardAtReception hs hrx _ _

theorem CopyLaws.dataInRun {s : State} (h : CopyLaws s) (hs : CellsInPlace s) (p : LinkId) (b : Byte) :
    CopyLaws (s.dataInRun p b) := by
  unfold State.dataInRun
  cases hrx : (s.links.get p).rx with
  | none => exact h.startFrame hs hrx b
  | some f =>
    cases hd : f.disposition with
    | sinkingSurplus => simp only [hd]; exact h
    | storing d | sinkingNoDescriptor =>
      cases hh : f.header with
      | none => simp only [hd, hh]; exact h.headerData hs hrx b
      | some g => simp only [hd, hh]; exact h.knownData hs hrx (by simp [hd]) g b

/-- END_GOOD with a frame in progress. -/
theorem CopyLaws.endGoodInFrame {s : State} (h : CopyLaws s) (hs : CellsInPlace s) {p : LinkId} {f : RxFrame}
    (hrx : (s.links.get p).rx = some f) : CopyLaws (s.endGoodInFrame p f) := by
  unfold State.endGoodInFrame
  cases hd : f.disposition with
  | sinkingSurplus => exact h.setRx_none hrx (by simp [hd])
  | sinkingNoDescriptor => exact h.setRx_none_discard hs hrx _
  | storing d =>
    cases hh : f.header with
    | none => exact h.setRx_none_discard hs hrx _
    | some g =>
      simp only
      split
      · exact h.setRx_none_discard hs hrx _
      split
      · exact h.setRx_none_discard hs hrx _
      · obtain ⟨x, hx, hheader⟩ := h.storing hs hrx hd
        obtain ⟨hlinks, hwin⟩ := ((s.setRx p none).resolve_cases d p.port g).1
        refine h.resolve hs (State.owns_of_rx hrx hd) (fun y hy => ?_) (by rfl) (by rfl) rfl rfl
          fun _ _ _ he ha => ha.others hrx hd he hlinks (congrArg Window.engine hwin)
        cases hx.symm.trans hy
        exact hheader.trans hh

/-- END_CUT with a frame in progress. -/
theorem CopyLaws.endCutInFrame {s : State} (h : CopyLaws s) (hs : CellsInPlace s) {p : LinkId} {f : RxFrame}
    (hrx : (s.links.get p).rx = some f) : CopyLaws (s.endCutInFrame p f) := by
  unfold State.endCutInFrame
  cases hd : f.disposition with
  | sinkingSurplus => exact h.setRx_none hrx (by simp [hd])
  | sinkingNoDescriptor | storing d => exact h.setRx_none_discard hs hrx _

end Sys2Proof.Machine
end

section
/-! PROOFS. The copy laws command by command: the events of the links, of the transmitters and of the host window. -/

namespace Sys2Proof.Machine

set_option Elab.async false

/-! ## Link characters -/

theorem CopyLaws.restartSilence {s : State} (h : CopyLaws s) (p : LinkId) : CopyLaws (s.restartSilence p) :=
  h.modLink rfl

theorem CopyLaws.dataReceived {s t : State} (h : CopyLaws s) (hs : CellsInPlace s) {p : LinkId} {b : Byte}
    (hexec : exec (.dataReceived p b) s = .next t) : CopyLaws t := by
  cases hexec
  cases (s.links.get p).state with
  | disabled | listen | faulted => exact h
  | sync => exact h.fault hs ..
  | run => exact (h.restartSilence p).dataInRun (hs.moves (moves_restartSilence s p)) ..

theorem CopyLaws.endGoodReceived {s t : State} (h : CopyLaws s) (hs : CellsInPlace s) {p : LinkId}
    (hexec : exec (.endGoodReceived p) s = .next t) : CopyLaws t := by
  cases hexec
  cases (s.links.get p).state with
  | disabled | listen | faulted => exact h
  | sync => exact h.fault hs ..
  | run =>
    cases hrx : (s.links.get p).rx with
    | none => exact h.fault hs ..
    | some f =>
      exact (h.restartSilence p).endGoodInFrame (hs.moves (moves_restartSilence s p)) (by simpa using hrx)

theorem CopyLaws.endCutReceived {s t : State} (h : CopyLaws s) (hs : CellsInPlace s) {p : LinkId}
    (hexec : exec (.endCutReceived p) s = .next t) : CopyLaws t := by
  cases hexec
  cases (s.links.get p).state with
  | disabled | listen | faulted => exact h
  | sync => exact h.fault hs ..
  | run =>
    cases hrx : (s.links.get p).rx with
    | none => exact h.fault hs ..
    | some f =>
      exact (h.restartSilence p).endCutInFrame (hs.moves (moves_restartSilence s p)) (by simpa using hrx)

theorem CopyLaws.codeError {s : State} (h : CopyLaws s) (hs : CellsInPlace s) (p : LinkId) :
    CopyLaws (s.codeError p) := by
  unfold State.codeError
  cases (s.links.get p).state with
  | disabled | listen | faulted => exact h
  | sync | run => exact h.fault hs ..

theorem CopyLaws.endWait {s : State} (h : CopyLaws s) (p : LinkId) : CopyLaws (s.endWait p) := by
  unfold State.endWait
  cases hdep : (s.outs.get p.port).departing with
  | none => exact h
  | some dep =>
    simp only
    split
    · exact (h.setOut (by rfl) (by rfl) (by simp [hdep])).setLinkOut ..
    · exact h

theorem CopyLaws.creditInRun {s : State} (h : CopyLaws s) (hs : CellsInPlace s) (p : LinkId) (n : Nat) :
    CopyLaws (s.creditInRun p n) := by
  unfold State.creditInRun
  split
  · refine CopyLaws.endWait ?_ p
    exact h.modLink rfl
  · exact h.fault hs ..

theorem CopyLaws.creditReceived {s t : State} (h : CopyLaws s) (hs : CellsInPlace s) {p : LinkId} {n : Nat}
    (hexec : exec (.creditReceived p n) s = .next t) : CopyLaws t := by
  cases hexec
  split
  · cases hstate : (s.links.get p).state with
    | disabled | listen | faulted => exact h
    | sync => exact h.enterRun (hs.rx_none (by simp [hstate])) n
    | run => exact (h.restartSilence p).creditInRun (hs.moves (moves_restartSilence s p)) ..
  · exact h.codeError hs p

theorem CopyLaws.idleReceived {s t : State} (h : CopyLaws s) (hs : CellsInPlace s) {p : LinkId}
    (hexec : exec (.idleReceived p) s = .next t) : CopyLaws t := by
  cases hexec
  cases hstate : (s.links.get p).state with
  | disabled | listen | faulted => exact h
  | sync => exact h.enterRun (hs.rx_none (by simp [hstate])) _
  | run => exact h.restartSilence p

theorem CopyLaws.helloReceived {s t : State} (h : CopyLaws s) (hs : CellsInPlace s) {p : LinkId}
    (hexec : exec (.helloReceived p) s = .next t) : CopyLaws t := by
  cases hexec
  cases hstate : (s.links.get p).state with
  | disabled | faulted => exact h
  | listen => exact h.enterSync (hs.rx_none (by simp [hstate]))
  | sync => exact h.restartSilence p
  | run => exact h.fault hs ..

/-! ## Timers -/

theorem CopyLaws.silenceTimerExpiry {s t : State} (h : CopyLaws s) (hs : CellsInPlace s) {p : LinkId}
    (hexec : exec (.silenceTimerExpiry p) s = .next t) : CopyLaws t := by
  cases hexec
  split
  · cases (s.links.get p).state with
    | disabled | listen | faulted => exact h
    | sync | run => exact h.fault hs ..
  · exact h

theorem CopyLaws.syncTimerExpiry {s t : State} (h : CopyLaws s) (hs : CellsInPlace s) {p : LinkId}
    (hexec : exec (.syncTimerExpiry p) s = .next t) : CopyLaws t := by
  cases hexec
  split
  · cases (s.links.get p).state with
    | disabled | listen | run | faulted => exact h
    | sync => exact h.fault hs ..
  · exact h

theorem CopyLaws.recoveryTimerExpiry {s t : State} (h : CopyLaws s) (hs : CellsInPlace s) {p : LinkId}
    (hexec : exec (.recoveryTimerExpiry p) s = .next t) : CopyLaws t := by
  cases hexec
  split
  · cases hstate : (s.links.get p).state with
    | disabled | listen | sync | run => exact h
    | faulted =>
      simp only
      split
      · exact h.enterListen (hs.rx_none (by simp [hstate]))
      · exact h.modLink (by rfl)
  · exact h

theorem CopyLaws.stallTimerExpiry {s t : State} (h : CopyLaws s) {p : LinkId}
    (hexec : exec (.stallTimerExpiry p) s = .next t) : CopyLaws t := by
  cases hexec
  split
  · cases (s.outs.get p.port).departing with
    | none => exact h
    | some dep =>
      refine ((CopyLaws.dropDeparting ?_ p).countLost ..).record _
      exact h.modLink rfl
  · exact h

theorem CopyLaws.holdTimerExpiry {s t : State} (h : CopyLaws s) {p : LinkId}
    (hexec : exec (.holdTimerExpiry p) s = .next t) : CopyLaws t := by
  cases hexec
  split
  · exact (h.purgeLost p).setQueueState ..
  · exact h

/-! ## Refill, selection, transmission -/

theorem CopyLaws.refill {s t : State} (h : CopyLaws s) (hexec : exec .refill s = .next t) : CopyLaws t := by
  cases hexec
  cases (refillOrder s.pool.refillPointer).find? fun p => s.refillable p with
  | none => exact h
  | some p =>
    simp only [State.refillLink]
    cases s.pool.freeList with
    | nil => exact h
    | cons c rest => exact h.same rfl rfl rfl rfl

/-- The departing copy comes to another position. -/
theorem CopyLaws.arrive {s : State} (h : CopyLaws s) {p : LinkId} {dep dep' : Departure}
    (hdep : (s.outs.get p.port).departing = some dep) (hdesc : dep'.desc = dep.desc) (hcls : dep'.cls = dep.cls)
    (size : Nat) : CopyLaws (s.arrive p dep' size) :=
  (h.setOut (by rfl) (by rfl) (by simp [hdep, hdesc, hcls])).setLinkOut ..

/-- The next copy stands in the slot at position 0 (R85). -/
theorem State.beginDeparture_outs (s : State) (p : LinkId) (d : DescId) (cls : Class) (o : Output) :
    (s.beginDeparture p d cls o).outs = s.outs.set p.port { o with
      departing := some ⟨d, cls, 0,
        isGroupStart 0 (s.headerOf d).size && decide ((s.links.get p).txCredit = 0)⟩ } := by
  simp [State.beginDeparture, State.arrive]

/-- A departure begun marks its copy, and changes outputs besides. -/
theorem State.beginDeparture_descs (s : State) (p : LinkId) (d : DescId) (cls : Class) (o : Output) :
    (s.beginDeparture p d cls o).descs = (s.markDeparting p.port d).descs := by
  rw [State.beginDeparture, State.markDeparting_setOut]
  rfl

theorem CopyLaws.selection {s t : State} (h : CopyLaws s) {p : LinkId} (hexec : exec (.selection p) s = .next t) :
    CopyLaws t := by
  cases hexec
  split
  · rename_i hready
    cases ht : (s.outs.get p.port).takeNext with
    | none => exact h
    | some next =>
      obtain ⟨d, cls, o⟩ := next
      exact h.depart hready.2 ht (s.beginDeparture_outs p d cls o) (s.beginDeparture_descs p d cls o)
        (by simp [State.beginDeparture, State.arrive]) (by simp [State.beginDeparture, State.arrive])
  · exact h

theorem CopyLaws.putLine {s : State} (h : CopyLaws s) (p : LinkId) (c : Option LinkChar) : CopyLaws (s.putLine p c) :=
  h.modLink rfl

theorem CopyLaws.sendCredit {s : State} (h : CopyLaws s) (p : LinkId) : CopyLaws (s.sendCredit p) :=
  (h.putLine p _).same rfl rfl rfl rfl

theorem CopyLaws.sendCreditOrIdle {s : State} (h : CopyLaws s) (p : LinkId) : CopyLaws (s.sendCreditOrIdle p) := by
  unfold State.sendCreditOrIdle
  split
  · exact h.putLine ..
  · exact h.sendCredit p

theorem CopyLaws.sendDeparture {s : State} (h : CopyLaws s) {p : LinkId} {dep : Departure}
    (hdep : (s.outs.get p.port).departing = some dep) : CopyLaws (s.sendDeparture p dep) := by
  unfold State.sendDeparture
  simp only
  split
  · exact ((h.putLine ..).dropDeparting p).countDelivered _
  · exact (h.putLine ..).arrive hdep (by rfl) (by rfl) _

theorem CopyLaws.transmitInRun {s : State} (h : CopyLaws s) (p : LinkId) : CopyLaws (s.transmitInRun p) := by
  unfold State.transmitInRun
  split
  · refine CopyLaws.putLine ?_ ..
    exact h.modLink rfl
  cases hdep : (s.outs.get p.port).departing with
  | none => exact h.sendCreditOrIdle p
  | some dep =>
    simp only
    split
    · split
      · exact h.sendCredit p
      split
      · refine CopyLaws.sendDeparture ?_ hdep
        exact h.modLink rfl
      · exact h.putLine ..
    · exact h.sendDeparture hdep

theorem CopyLaws.transmitInSync {s : State} (h : CopyLaws s) (p : LinkId) : CopyLaws (s.transmitInSync p) := by
  unfold State.transmitInSync
  cases (s.links.get p).syncStep with
  | hello | idle =>
    refine CopyLaws.putLine ?_ ..
    exact h.modLink rfl
  | stream => exact h.sendCreditOrIdle p

theorem CopyLaws.transmitCharacter {s t : State} (h : CopyLaws s) {p : LinkId}
    (hexec : exec (.transmitCharacter p) s = .next t) : CopyLaws t := by
  cases hexec
  cases (s.links.get p).state with
  | disabled | faulted | listen => exact h.putLine ..
  | sync => exact h.transmitInSync p
  | run => exact h.transmitInRun p

/-! ## The window -/

theorem CopyLaws.modWin {s : State} (h : CopyLaws s) {f : Window → Window}
    (he : (f s.win).engine = s.win.engine) : CopyLaws (s.modWin f) :=
  h.same rfl rfl rfl he

/-- A command ends that was no SEND. -/
theorem CopyLaws.endCommand {s : State} (h : CopyLaws s) (he : s.win.engine.sendDesc = none) (code : Code)
    (r : Words4) : CopyLaws (s.endCommand code r) :=
  h.engine rfl rfl rfl he.symm

/-- The frames that the links assemble stand when the SEND in progress is given up. -/
theorem State.Assembles.others_send {s t : State} {o : Port} {d e : DescId} {g : Option Header}
    (ha : s.Assembles o e g) (hsend : s.win.engine.sendDesc = some d) (he : e ≠ d) (links : t.links = s.links) :
    t.Assembles o e g := by
  obtain ⟨-, h, -⟩ | ⟨p, f, ho, hrx, hd, hg⟩ := ha
  · cases hsend.symm.trans h
    exact absurd rfl he
  · exact Or.inr ⟨p, f, ho, links ▸ hrx, hd, hg⟩

/-- The SEND in progress is the only frame that port 0 assembles, so with none the links assemble every frame. -/
theorem State.Assembles.of_no_send {s t : State} {o : Port} {e : DescId} {g : Option Header}
    (ha : s.Assembles o e g) (hsend : s.win.engine.sendDesc = none) (links : t.links = s.links) :
    t.Assembles o e g := by
  obtain ⟨-, h, -⟩ | ⟨p, f, ho, hrx, hd, hg⟩ := ha
  · rw [hsend] at h
    cases h
  · exact Or.inr ⟨p, f, ho, links ▸ hrx, hd, hg⟩

/-- The header of the frame of a SEND in progress (R144). -/
theorem CopyLaws.header_of_send {s : State} (h : CopyLaws s) (hs : CellsInPlace s) {d : DescId}
    (hsend : s.win.engine.sendDesc = some d) {x : Descriptor} (hx : s.desc d = some x) :
    x.header = some (s.headerOf d) := by
  obtain ⟨y, hy, hstate, hsource⟩ := hs.sending d hsend
  cases hx.symm.trans hy
  obtain ⟨-, hheader⟩ := (hsource ▸ h.assembles hx hstate : s.Assembles .p0 d x.header).send
  obtain ⟨g, hg⟩ := Option.ne_none_iff_exists'.1 hheader
  simp [State.headerOf, hx, hg]

theorem CopyLaws.resolution {s t : State} (h : CopyLaws s) (hs : CellsInPlace s)
    (hexec : exec .resolution s = .next t) : CopyLaws t := by
  cases hexec
  cases he : s.win.engine with
  | initialising | idle | executingClear | writePhase | readPhase => exact h
  | executingSend d =>
    have hsend : s.win.engine.sendDesc = some d := by rw [he]; rfl
    have hlinks := (s.resolve_cases d .p0 (s.headerOf d)).1.1
    have hend (code : Code) (r : Words4) : CopyLaws ((s.resolve d .p0 (s.headerOf d)).2.endCommand code r) :=
      h.resolve hs (State.owns_of_send hsend) (fun x hx => h.header_of_send hs hsend hx) rfl rfl rfl rfl
        fun _ _ _ hne ha => ha.others_send hsend hne hlinks
    simp only
    cases hres : s.resolve d .p0 (s.headerOf d) with
    | mk decision u =>
      rw [hres] at hend
      cases decision with
      | discard cause => exact hend ..
      | place outputs refused pointer => exact hend ..

theorem CopyLaws.initialisationEnd {s t : State} (h : CopyLaws s) (hexec : exec .initialisationEnd s = .next t) :
    CopyLaws t := by
  cases hexec
  split
  · exact h
  cases he : s.win.engine with
  | initialising => exact h.engine rfl rfl rfl (by rw [he]; rfl)
  | idle | executingSend | executingClear | writePhase | readPhase => exact h

theorem CopyLaws.clearSwitchEnd {s t : State} (h : CopyLaws s) (hexec : exec .clearSwitchEnd s = .next t) :
    CopyLaws t := by
  cases hexec
  cases he : s.win.engine with
  | executingClear n => exact h.endCommand (by rw [he]; rfl) ..
  | initialising | idle | executingSend | writePhase | readPhase => exact h

/-- The laws after a reset, with every queue and slot empty (R98, R138). -/
theorem copyLaws_of_reset {t : State} (descs : t.descs = State.reset.descs)
    (outs : ∀ p, (t.outs.get p).owed = []) : CopyLaws t :=
  copyLaws_of_empty (desc_of_replicate descs) outs

theorem copyLaws_hardReset {s t : State} (hexec : exec .hardReset s = .next t) : CopyLaws t := by
  have ht : s.hardResetValues.modWin (fun w => { w with resetApplied := true }) = t := by
    injection hexec
  refine ht ▸ copyLaws_of_reset rfl fun p => ?_
  have hout : (State.reset.outs.get p).owed = [] := by rw [reset_out]; rfl
  exact hout

theorem copyLaws_softReset (s : State) : CopyLaws s.softResetValues :=
  copyLaws_of_reset rfl fun p => by cases p <;> rfl

theorem CopyLaws.controlWrite {s : State} (h : CopyLaws s) (word : Word) : CopyLaws (s.controlWrite word) := by
  unfold State.controlWrite
  split
  · exact h
  split
  · exact copyLaws_softReset s
  · exact h.modWin rfl

theorem CopyLaws.irqCauseWrite {s t : State} (h : CopyLaws s) {word : Word}
    (hexec : exec (.irqCauseWrite word) s = .next t) : CopyLaws t := by
  cases hexec
  split
  · exact h
  · exact h.modWin rfl

theorem CopyLaws.registerWrite {s t : State} (h : CopyLaws s) {reg : PlainReg} {word : Word}
    (hexec : exec (.registerWrite reg word) s = .next t) : CopyLaws t := by
  cases hexec
  split
  · exact h
  cases reg with
  | param0 | param1 | param2 | param3 | irqEnable => exact h.modWin rfl
  | error | result0 | result1 | result2 | result3 | linkState | id => exact h

/-- While a hard reset is applied the engine is INITIALISING, so its release ends no SEND (R140). -/
theorem CopyLaws.resetRelease {s t : State} (h : CopyLaws s) (ho : OutputLaws s)
    (hexec : exec .resetRelease s = .next t) : CopyLaws t := by
  cases hexec
  split
  · rename_i happlied
    exact h.engine rfl rfl rfl (by rw [ho.applied happlied]; rfl)
  · exact h

theorem CopyLaws.dataWrite {s t : State} (h : CopyLaws s) {word : Word}
    (hexec : exec (.dataWrite word) s = .next t) : CopyLaws t := by
  cases hexec
  split
  · exact h
  cases he : s.win.engine with
  | initialising | idle | executingSend | executingClear | readPhase => exact h
  | writePhase d cursor =>
    have hsend {e : Engine} (hd : e.sendDesc = some d) : CopyLaws ((s.storePayload d cursor word).setEngine e) := by
      rw [s.storePayload_frame d cursor word]
      exact h.engine rfl rfl rfl (by rw [he]; exact hd)
    simp only
    split
    · exact hsend rfl
    · exact hsend rfl

theorem CopyLaws.dataRead {s t : State} (h : CopyLaws s) (hexec : exec .dataRead s = .next t) : CopyLaws t := by
  have hbus : CopyLaws (s.modWin fun w => { w with dataBus := s.readRegister 13#4 }) := h.modWin rfl
  cases hexec
  simp only
  split
  · exact hbus
  cases he : s.win.engine with
  | initialising | idle | executingSend | executingClear | writePhase => exact hbus
  | readPhase cursor =>
    cases hdep : s.outs.p0.departing with
    | none => exact hbus
    | some dep =>
      simp only
      split
      · exact ((hbus.dropHostCopy hdep).countDelivered _).endCommand
          (by simp [State.dropHostCopy, he, Engine.sendDesc]) ..
      · exact hbus.engine rfl rfl rfl (by simp [he, Engine.sendDesc])

end Sys2Proof.Machine
end

section
/-! PROOFS. The copy laws under the host commands, and under every step. -/

namespace Sys2Proof.Machine

set_option Elab.async false

/-! ## A command taken -/

/-- What holds when a command is taken in IDLE (R128). -/
structure Taken (s : State) : Prop where
  copies : CopyLaws s
  cells : CellsInPlace s
  outputs : OutputLaws s
  idle : s.win.engine = .idle

theorem Taken.no_send {s : State} (h : Taken s) : s.win.engine.sendDesc = none := by
  rw [h.idle]
  rfl

/-- No copy departs at port 0 outside READ_PHASE (Law 7). -/
theorem Taken.hostSlot {s : State} (h : Taken s) : s.outs.p0.departing = none := by
  by_contra hdep
  obtain ⟨cursor, hphase⟩ := h.outputs.hostSlot.1 hdep
  rw [h.idle] at hphase
  cases hphase

theorem Taken.endCommand {s : State} (h : Taken s) (code : Code) (r : Words4) : CopyLaws (s.endCommand code r) :=
  h.copies.endCommand h.no_send ..

theorem Taken.endPlain {s : State} (h : Taken s) (code : Code) : CopyLaws (s.endPlain code) := h.endCommand ..

/-- A command that changes neither outputs, descriptors nor links ends. -/
theorem Taken.ends {s t : State} (h : Taken s) (outs : t.outs = s.outs) (descs : t.descs = s.descs)
    (links : t.links = s.links) (engine : t.win.engine = .idle) : CopyLaws t :=
  h.copies.same outs descs links (engine.trans h.idle.symm)

/-- A COMMAND write, by what its command does once taken in IDLE. -/
theorem CopyLaws.commandWrite {s : State} (h : CopyLaws s) (hs : CellsInPlace s) (ho : OutputLaws s)
    {run : State → State} (hrun : ∀ u : State, Taken u → CopyLaws (run u)) : CopyLaws (s.commandWrite run) := by
  rcases s.commandWrite_cases run with ⟨-, hw⟩ | ⟨hready, hw⟩ | ⟨-, -, hw⟩ <;> rw [hw]
  · exact h
  · have htake : Moves s s.take := moves_modWin rfl
    exact hrun s.take ⟨h.modWin rfl, hs.moves htake, { ho with }, hready.2⟩
  · exact h.modWin rfl

/-! ## The frame commands -/

theorem Taken.beginSend {s : State} (hs : Taken s) {d : DescId} (hd : s.desc d = none) (h : Header) (k : Nat) :
    CopyLaws (s.beginSend d h k) := by
  have hother {t : State} (hl : t.links = s.links) (o : Port) (e : DescId) (g : Option Header) (_ : e ≠ d)
      (ha : s.Assembles o e g) : t.Assembles o e g := ha.of_no_send hs.no_send hl
  have hown {t : State} (he : t.win.engine.sendDesc = some d) : t.Assembles .p0 d (some h) :=
    Or.inl ⟨rfl, he, Option.some_ne_none h⟩
  unfold State.beginSend
  simp only
  rw [State.writeFrameBytes_frame]
  split <;> exact hs.copies.allocated hd (chain := s.pool.freeList.take k) ⟨rfl, rfl, rfl, rfl⟩ rfl rfl
    (hown (by rfl)) (hother (by rfl))

theorem Taken.runSend {s : State} (h : Taken s) : CopyLaws s.runSend := by
  unfold State.runSend
  simp only
  cases classOfWord s.win.taken.w1 with
  | none => exact h.endPlain _
  | some cls =>
    simp only
    split
    · exact h.endPlain _
    cases hfree : s.lowestFree with
    | none => exact h.endPlain _
    | some d =>
      simp only
      split
      · exact h.endPlain _
      split
      · exact h.endPlain _
      · exact h.beginSend (State.lowestFree_spec hfree) ..

theorem Taken.runRecv {s : State} (h : Taken s) : CopyLaws s.runRecv := by
  unfold State.runRecv
  cases ht : s.outs.p0.takeNext with
  | none => exact h.endPlain _
  | some next =>
    obtain ⟨d, cls, o⟩ := next
    have hdepart : CopyLaws ((s.setOut .p0 { o with departing := some ⟨d, cls, 0, false⟩ }).markDeparting .p0 d) := by
      rw [State.markDeparting_setOut]
      exact h.copies.depart (p := .p0) h.hostSlot ht (k := 0) (wait := false) (by simp) rfl (by simp) (by simp)
    simp only
    split
    · refine ((hdepart.dropHostCopy ?_).countDelivered _).endCommand ?_ ..
      · simp [PerPort.set]
      · simp [State.dropHostCopy, h.no_send]
    · exact hdepart.engine rfl rfl rfl (by simp [State.beginPhase, Engine.sendDesc, h.idle])

theorem Taken.runSkip {s : State} (h : Taken s) : CopyLaws s.runSkip := by
  unfold State.runSkip
  cases ht : s.outs.p0.takeNext with
  | none => exact h.endPlain _
  | some next =>
    obtain ⟨d, cls, o⟩ := next
    exact ((h.copies.releaseNext (p := .p0) ht).countLost ..).endCommand (by simp [h.no_send]) ..

theorem CopyLaws.abortPhase {s : State} (h : CopyLaws s) (hs : CellsInPlace s) : CopyLaws s.abortPhase := by
  have hcleared : CopyLaws (s.modWin fun w => { w with overrun := false }) := h.modWin rfl
  unfold State.abortPhase
  cases he : s.win.engine with
  | initialising | idle | executingSend | executingClear => exact h
  | writePhase d cursor =>
    have hsend : s.win.engine.sendDesc = some d := by rw [he]; rfl
    have hmoves : Moves s (s.modWin fun w => { w with overrun := false }) := moves_modWin rfl
    exact hcleared.drop (hs.moves hmoves) (State.owns_of_send hsend) (State.freeDesc_outs ..) rfl
      fun _ _ _ hne ha => ha.others_send hsend hne (State.freeDesc_links ..)
  | readPhase cursor =>
    cases hdep : s.outs.p0.departing with
    | none => exact hcleared.endCommand (by simp [he, Engine.sendDesc]) ..
    | some dep =>
      exact ((hcleared.dropHostCopy hdep).countLost ..).endCommand
        (by simp [State.dropHostCopy, he, Engine.sendDesc]) ..

theorem CopyLaws.abort {s t : State} (h : CopyLaws s) (hs : CellsInPlace s) (ho : OutputLaws s)
    (hexec : exec .abort s = .next t) : CopyLaws t := by
  cases hexec
  split
  · exact h.abortPhase hs
  · exact h.commandWrite hs ho fun _ hu => hu.endPlain _

/-! ## The pool, table and counter commands -/

theorem Taken.runSetPool {s : State} (h : Taken s) : CopyLaws s.runSetPool := by
  unfold State.runSetPool
  cases s.allDisabled with
  | false => exact h.endPlain _
  | true =>
    cases poolSetting s.pool s.win.taken with
    | none => exact h.endPlain _
    | some q => exact h.ends rfl rfl rfl rfl

/-- With every link DISABLED and the engine IDLE no output owes a copy that `State.clearTraffic` leaves: the queues of
the links are CLOSED and the slots empty (R161). -/
theorem Taken.clearTraffic_owed {s : State} (h : Taken s) (hd : ∀ p, (s.links.get p).state = .disabled) (p : Port) :
    (s.clearTraffic.outs.get p).owed = [] := by
  have hlink (l : LinkId) : (s.outs.get l.port).resetYield.owed = [] := by
    obtain ⟨hexpress, hstandard⟩ := h.outputs.closedEmpty l (h.outputs.closedWhenDisabled l (hd l))
    have hslot : (s.outs.get l.port).departing = none := by
      by_contra hdep
      have hrun := h.outputs.departingInRun l hdep
      rw [hd l] at hrun
      cases hrun
    simp [Output.owed, Output.queued, Output.resetYield, hexpress, hstandard, hslot]
  cases hp : p.link? with
  | none =>
    have hp0 : p = .p0 := by cases p <;> simp [Port.link?] at hp ⊢
    simp [hp0, State.clearTraffic, PerPort.get, Output.owed, Output.queued, Output.resetYield, h.hostSlot]
  | some l =>
    rw [Port.link_eq_some.1 hp]
    have hget : s.clearTraffic.outs.get l.port = (s.outs.get l.port).resetYield := by cases l <;> rfl
    rw [hget]
    exact hlink l

theorem Taken.runClearSwitch {s : State} (h : Taken s) : CopyLaws s.runClearSwitch := by
  unfold State.runClearSwitch
  cases hall : s.allDisabled with
  | false => exact h.endPlain _
  | true =>
    exact copyLaws_of_empty (desc_of_replicate (by simp only [State.clearTraffic]; rfl))
      (h.clearTraffic_owed (State.allDisabled_iff.1 hall))

theorem Taken.runTakeRecord {s : State} (h : Taken s) : CopyLaws s.runTakeRecord := by
  unfold State.runTakeRecord
  cases s.records.list with
  | nil => exact h.endCommand ..
  | cons r rest => exact h.ends rfl rfl rfl rfl

theorem Taken.runClearCounters {s : State} (h : Taken s) : CopyLaws s.runClearCounters :=
  h.ends rfl rfl rfl rfl

theorem Taken.runReadCounter {s : State} (h : Taken s) : CopyLaws s.runReadCounter := by
  unfold State.runReadCounter
  split
  · split
    · exact h.endCommand ..
    · exact h.endPlain _
  · exact h.endPlain _

theorem Taken.runTableWrite {s : State} (h : Taken s) : CopyLaws s.runTableWrite := by
  unfold State.runTableWrite
  cases tableWriteEntry s.win.taken with
  | error c => exact h.endPlain _
  | ok entry => exact h.ends rfl rfl rfl rfl

theorem Taken.runTableRead {s : State} (h : Taken s) : CopyLaws s.runTableRead := by
  unfold State.runTableRead
  split
  · exact h.endCommand ..
  · exact h.endPlain _

/-! ## The port and link commands -/

theorem Taken.runReadPort {s : State} (h : Taken s) : CopyLaws s.runReadPort := by
  unfold State.runReadPort
  split
  · exact h.endPlain _
  · split <;> exact h.endCommand ..

theorem CopyLaws.setYield {s : State} (h : CopyLaws s) (p : Port) (y : Nat) : CopyLaws (s.setYield p y) :=
  h.setOut rfl rfl rfl

theorem Taken.runPortConfig {s : State} (h : Taken s) : CopyLaws s.runPortConfig := by
  unfold State.runPortConfig
  simp only
  cases portOfWord s.win.taken.w0 with
  | none => exact h.endPlain _
  | some p =>
    simp only
    split
    · exact h.endPlain _
    cases p.link? with
    | none =>
      simp only
      split
      · exact h.endPlain _
      · exact (h.copies.setYield ..).endCommand h.no_send ..
    | some l =>
      cases speedOfWord s.win.taken.w3 with
      | none => exact h.endPlain _
      | some speed => exact ((h.copies.setYield ..).setLinkOut ..).endCommand h.no_send ..

theorem CopyLaws.flushOutput {s : State} (h : CopyLaws s) (p : Port) : CopyLaws (s.flushOutput p) := by
  unfold State.flushOutput
  cases p.link? with
  | none => exact (h.purge p).countLost ..
  | some l =>
    refine ((CopyLaws.dropDeparting ?_ l).purge p).countLost ..
    exact h.modLink rfl

theorem Taken.runPortFlush {s : State} (h : Taken s) : CopyLaws s.runPortFlush := by
  unfold State.runPortFlush
  cases portOfWord s.win.taken.w0 with
  | none => exact h.endPlain _
  | some p => exact (h.copies.flushOutput p).endCommand (by rw [State.flushOutput_win]; exact h.no_send) ..

theorem Taken.runDisable {s : State} (h : Taken s) (p : LinkId) : CopyLaws (s.runDisable p) := by
  have hend (code : Code) (r : Words4) : CopyLaws ((s.disableLink p).endCommand code r) :=
    (h.copies.disableLink h.cells p).endCommand (by rw [State.disableLink_engine]; exact h.no_send) ..
  unfold State.runDisable
  cases (s.links.get p).state with
  | disabled | listen | sync | run | faulted => exact hend ..

theorem Taken.runRestart {s : State} (h : Taken s) (p : LinkId) : CopyLaws (s.runRestart p) := by
  have hend (code : Code) (r : Words4) : CopyLaws ((s.restartLink p).endCommand code r) :=
    (h.copies.restartLink h.cells p).endCommand (by rw [State.restartLink_engine]; exact h.no_send) ..
  unfold State.runRestart
  cases (s.links.get p).state with
  | disabled => exact h.endPlain _
  | listen | faulted | sync | run => exact hend ..

theorem Taken.runEnable {s : State} (h : Taken s) (p : LinkId) : CopyLaws (s.runEnable p) :=
  (h.copies.enableLink h.cells p).endCommand (by rw [State.enableLink_win]; exact h.no_send) ..

theorem Taken.runLinkControl {s : State} (h : Taken s) : CopyLaws s.runLinkControl := by
  unfold State.runLinkControl
  split
  · exact h.endPlain _
  · exact h.endPlain _
  · exact h.runEnable _
  · exact h.runDisable _
  · exact h.runRestart _

/-! ## Every command -/

theorem CopyLaws.exec {c : Instr} {s t : State} (h : CopyLaws s) (hs : CellsInPlace s) (ho : OutputLaws s)
    (hexec : exec c s = .next t) : CopyLaws t := by
  have hcommand {run : State → State} (hrun : ∀ u : State, Taken u → CopyLaws (run u))
      (hexec : Host.Outcome.next (s.commandWrite run) = (.next t : Answer)) : CopyLaws t := by
    cases hexec
    exact h.commandWrite hs ho hrun
  cases c with
  | dataReceived => exact h.dataReceived hs hexec
  | endGoodReceived => exact h.endGoodReceived hs hexec
  | endCutReceived => exact h.endCutReceived hs hexec
  | creditReceived => exact h.creditReceived hs hexec
  | idleReceived => exact h.idleReceived hs hexec
  | helloReceived => exact h.helloReceived hs hexec
  | codeErrorReceived => cases hexec; exact h.codeError hs _
  | silenceTimerExpiry => exact h.silenceTimerExpiry hs hexec
  | syncTimerExpiry => exact h.syncTimerExpiry hs hexec
  | recoveryTimerExpiry => exact h.recoveryTimerExpiry hs hexec
  | stallTimerExpiry => exact h.stallTimerExpiry hexec
  | holdTimerExpiry => exact h.holdTimerExpiry hexec
  | refill => exact h.refill hexec
  | selection => exact h.selection hexec
  | transmitCharacter => exact h.transmitCharacter hexec
  | resolution => exact h.resolution hs hexec
  | initialisationEnd => exact h.initialisationEnd hexec
  | clearSwitchEnd => exact h.clearSwitchEnd hexec
  | hardReset => exact copyLaws_hardReset hexec
  | softReset | masterEnableWrite => cases hexec; exact h.controlWrite _
  | irqCauseWrite => exact h.irqCauseWrite hexec
  | dataWrite => exact h.dataWrite hexec
  | dataRead => exact h.dataRead hexec
  | registerWrite => exact h.registerWrite hexec
  | send => exact hcommand (fun _ hu => hu.runSend) hexec
  | recv => exact hcommand (fun _ hu => hu.runRecv) hexec
  | skip => exact hcommand (fun _ hu => hu.runSkip) hexec
  | abort => exact h.abort hs ho hexec
  | tableWrite => exact hcommand (fun _ hu => hu.runTableWrite) hexec
  | tableRead => exact hcommand (fun _ hu => hu.runTableRead) hexec
  | enable | disable | restart => exact hcommand (fun _ hu => hu.runLinkControl) hexec
  | portConfig => exact hcommand (fun _ hu => hu.runPortConfig) hexec
  | portFlush => exact hcommand (fun _ hu => hu.runPortFlush) hexec
  | readPort => exact hcommand (fun _ hu => hu.runReadPort) hexec
  | setPool => exact hcommand (fun _ hu => hu.runSetPool) hexec
  | readPool => exact hcommand (fun _ hu => hu.endCommand ..) hexec
  | readCounter => exact hcommand (fun _ hu => hu.runReadCounter) hexec
  | clearCounters => exact hcommand (fun _ hu => hu.runClearCounters) hexec
  | takeRecord => exact hcommand (fun _ hu => hu.runTakeRecord) hexec
  | clearSwitch => exact hcommand (fun _ hu => hu.runClearSwitch) hexec
  | badCommand => exact hcommand (fun _ hu => hu.endPlain _) hexec
  | resetRelease => exact h.resetRelease ho hexec

/-- Settles O60, command by command: the queue of the commands that wait takes no part in the laws. -/
theorem stepKeepsCopyLaws : Obligations.StepKeepsCopyLaws := by
  intro s t h hs ho hstep
  unfold step at hstep
  cases hp : s.pending with
  | nil =>
    rw [hp] at hstep
    cases hstep
    exact h
  | cons c rest =>
    rw [hp] at hstep
    have hqueue : Moves s { s with pending := rest } := moves_of_same rfl rfl rfl rfl
    have hcopies : CopyLaws { s with pending := rest } := h.same rfl rfl rfl rfl
    exact hcopies.exec (hs.moves hqueue) { ho with } hstep

end Sys2Proof.Machine
end

section
/-! PROOFS. Route resolution (sections 4.4 to 4.6 of the manual): the exclusion steps, the refused members and the
SPREAD choice, said once each, then the four statements about what a resolution decides. -/

namespace Sys2Proof.Machine

set_option Elab.async false

/-! ## The exclusion steps -/

theorem State.selfExcluded_iff {s : State} {source p : Port} :
    s.selfExcluded source p = true ↔ p = source ∧ s.reflect source = false := by
  simp [State.selfExcluded]

theorem hopExcluded_iff {hops : BitVec 4} {p : Port} : hopExcluded hops p = true ↔ p ≠ .p0 ∧ hops = 0 := by
  have hlink : p.link?.isSome = true ↔ p ≠ .p0 := by cases p <;> simp [Port.link?]
  rw [hopExcluded, Bool.and_eq_true, hlink, decide_eq_true_iff]

theorem State.closedExcluded_iff {s : State} {p : Port} :
    s.closedExcluded p = true ↔ s.queueState p = .closed := by
  simp [State.closedExcluded]

theorem State.fullExcluded_iff {s : State} {cls : Class} {p : Port} :
    s.fullExcluded cls p = true ↔ 32 ≤ ((s.outs.get p).queue cls).length := by
  rw [State.fullExcluded, decide_eq_true_iff, Config.queueCap]

/-- What the first two steps leave out of a FANOUT (R67): neither a copy nor a refusal. -/
def State.leftOut (s : State) (source : Port) (hops : BitVec 4) (p : Port) : Bool :=
  s.selfExcluded source p || hopExcluded hops p

theorem State.leftOut_iff {s : State} {source : Port} {hops : BitVec 4} {p : Port} :
    s.leftOut source hops p = true ↔ (p = source ∧ s.reflect source = false) ∨ (p ≠ .p0 ∧ hops = 0) := by
  rw [State.leftOut, Bool.or_eq_true, State.selfExcluded_iff, hopExcluded_iff]

/-- The cause is that of the first step after which every member is removed; otherwise the candidates are the members
that no step removes (R60, R62). -/
theorem State.candidates_eq (s : State) (source : Port) (hops : BitVec 4) (cls : Class) (ms : List Port) :
    s.candidates source hops cls ms =
      if ∀ p ∈ ms, s.selfExcluded source p = true then .error .selfRoute
      else if ∀ p ∈ ms, s.leftOut source hops p = true then .error .hopExpired
      else if ∀ p ∈ ms, s.leftOut source hops p = true ∨ s.closedExcluded p = true then .error .portClosed
      else if ∀ p ∈ ms,
          s.leftOut source hops p = true ∨ s.closedExcluded p = true ∨ s.fullExcluded cls p = true then
        .error .queueFull
      else .ok (ms.filter fun p => !(s.leftOut source hops p || s.closedExcluded p || s.fullExcluded cls p)) := by
  have removed (f g : Port → Bool) :
      (ms.filter fun p => !f p).filter (fun p => !g p) = ms.filter fun p => !(f p || g p) := by
    simp only [List.filter_filter, Bool.not_or, Bool.and_comm]
  have emptied (f : Port → Bool) : (ms.filter fun p => !f p).isEmpty = true ↔ ∀ p ∈ ms, f p = true := by
    simp
  unfold State.candidates
  simp only [removed, emptied, State.leftOut, Bool.or_eq_true, or_assoc, Bool.or_assoc]

/-- Settles O17: each clause is one branch of `State.candidates_eq`. -/
theorem exclusionStepsInOrder : Obligations.ExclusionStepsInOrder := by
  intro s source hops cls ms self hop closed full
  have hself (p : Port) : s.selfExcluded source p = true ↔ self p := State.selfExcluded_iff
  have hleft (p : Port) : s.leftOut source hops p = true ↔ self p ∨ hop p := State.leftOut_iff
  have hclosed (p : Port) : s.closedExcluded p = true ↔ closed p := State.closedExcluded_iff
  have hfull (p : Port) : s.fullExcluded cls p = true ↔ full p := State.fullExcluded_iff
  have hcases := s.candidates_eq source hops cls ms
  simp only [hself, hleft, hclosed, hfull, or_assoc] at hcases
  have fails {P Q : Port → Prop} (h : ∃ p ∈ ms, ¬ Q p) (hPQ : ∀ p, P p → Q p) : ¬ ∀ p ∈ ms, P p :=
    fun hall => h.elim fun p ⟨hp, hn⟩ => hn (hPQ p (hall p hp))
  refine ⟨⟨rfl, rfl⟩, fun p => ?ports, fun hall => ?self, fun hex hall => ?hop, fun hex hall => ?closed,
    fun hex hall => ?full, fun hex => ?left⟩
  case ports => simp [State.reflect, State.queueState]
  case self => rw [hcases, if_pos hall]
  case hop => rw [hcases, if_neg (fails hex fun _ => id), if_pos hall]
  case closed =>
    rw [hcases, if_neg (fails hex fun _ => Or.inl), if_neg (fails hex fun _ => id), if_pos hall]
  case full =>
    rw [hcases, if_neg (fails hex fun _ => Or.inl), if_neg (fails hex fun _ => Or.imp_right Or.inl),
      if_neg (fails hex fun _ => id), if_pos hall]
  case left =>
    rw [if_neg (fails hex fun _ => Or.inl), if_neg (fails hex fun _ => Or.imp_right Or.inl),
      if_neg (fails hex fun _ => Or.imp_right (Or.imp_right Or.inl)), if_neg (fails hex fun _ => id)] at hcases
    obtain ⟨hne, hsub, -⟩ := State.candidates_ok hcases
    refine ⟨_, hne, hsub, fun p => ?_, hcases⟩
    rw [List.mem_filter, Bool.not_eq_true', ← Bool.not_eq_true, Bool.or_eq_true, Bool.or_eq_true, hleft, hclosed,
      hfull, or_assoc, or_assoc]

/-! ## The decision by the entry's kind -/

section
variable {s : State} {source : Port} {h : Header}

/-- The candidates of a frame among the members of its entry, in the class the entry gives it (R59, R60). -/
def State.routeCandidates (s : State) (source : Port) (h : Header) : Except Code (List Port) :=
  s.candidates source h.hops (copyClass (s.entry h.dest).rule h.cls) (members (s.entry h.dest).ports)

theorem State.decideRoute_invalid (hk : (s.entry h.dest).kind = .invalid) :
    s.decideRoute source h = .discard .invalidDest := by
  simp only [State.decideRoute, hk]

/-- With no candidate left, whatever the kind, the frame is discarded with the cause (R64, R66, R68). -/
theorem State.decideRoute_error {cause : Code} (hk : (s.entry h.dest).kind ≠ .invalid)
    (hc : s.routeCandidates source h = .error cause) : s.decideRoute source h = .discard cause := by
  unfold State.routeCandidates at hc
  unfold State.decideRoute
  cases hkind : (s.entry h.dest).kind with
  | invalid => exact absurd hkind hk
  | single | spread | fanout => simp only [hkind, hc]

theorem State.decideRoute_single {cands : List Port} (hk : (s.entry h.dest).kind = .single)
    (hc : s.routeCandidates source h = .ok cands) : s.decideRoute source h = .place cands [] none := by
  unfold State.routeCandidates at hc
  simp only [State.decideRoute, hk, hc]

theorem State.decideRoute_spread {cands : List Port} {p : Port} (hk : (s.entry h.dest).kind = .spread)
    (hc : s.routeCandidates source h = .ok cands) (hp : s.spreadChoice (s.pointer h.dest) cands = some p) :
    s.decideRoute source h = .place [p] [] (some p) := by
  unfold State.routeCandidates at hc
  simp only [State.decideRoute, hk, hc, hp]

theorem State.decideRoute_fanout {cands : List Port} (hk : (s.entry h.dest).kind = .fanout)
    (hc : s.routeCandidates source h = .ok cands) :
    s.decideRoute source h = .place cands
      (s.refusedMembers source h.hops (copyClass (s.entry h.dest).rule h.cls) (members (s.entry h.dest).ports))
      none := by
  unfold State.routeCandidates at hc
  simp only [State.decideRoute, hk, hc]

end

/-- Settles O18: of one member, the candidates are that member or none. -/
theorem invalidAndSingleEntries : Obligations.InvalidAndSingleEntries := by
  intro s source h e
  refine ⟨fun c => ⟨rfl, rfl, rfl⟩, State.decideRoute_invalid,
    fun hk p hp => ⟨fun cause hc => ?_, fun cands hc => ?_⟩⟩
  · exact State.decideRoute_error (by rw [hk]; decide) (by rw [State.routeCandidates, hp]; exact hc)
  · obtain ⟨hne, hsub, -⟩ := State.candidates_ok hc
    have hcands : cands = [p] := (List.sublist_singleton.1 hsub).resolve_left hne
    rw [← hcands]
    exact State.decideRoute_single hk (by rw [State.routeCandidates, hp]; exact hc)

/-! ## The SPREAD choice -/

/-- How far port `p` stands from the first port of the rotation, the one at pointer + 1, going upward with 6 followed
by 0 (R65). -/
def rotationDistance (pointer p : Port) : Nat := (p.num + 6 - pointer.num) % 7

theorem mem_rotationOrder (pointer p : Port) : p ∈ rotationOrder pointer := by
  have hperm : (rotationOrder pointer).Perm Port.all := by cases pointer <;> decide
  exact hperm.mem_iff.2 (Port.mem_all p)

/-- The rotation order is by distance. -/
theorem rotationOrder_pairwise (pointer : Port) :
    (rotationOrder pointer).Pairwise fun p q => rotationDistance pointer p < rotationDistance pointer q := by
  cases pointer <;> decide

/-- The port found in rotation order is the one of least distance. -/
theorem find?_rotationOrder {pointer p : Port} {f : Port → Bool} (h : (rotationOrder pointer).find? f = some p) :
    f p = true ∧ ∀ q, f q = true → rotationDistance pointer p ≤ rotationDistance pointer q := by
  obtain ⟨hp, before, after, hsplit, hbefore⟩ := List.find?_eq_some_iff_append.1 h
  refine ⟨hp, fun q hq => ?_⟩
  have horder := rotationOrder_pairwise pointer
  have hmem := mem_rotationOrder pointer q
  rw [hsplit] at horder hmem
  rcases List.mem_append.1 hmem with hq' | hq'
  · have := hbefore q hq'
    simp [hq] at this
  · rcases List.mem_cons.1 hq' with rfl | hq'
    · exact Nat.le_refl _
    · exact Nat.le_of_lt ((List.pairwise_cons.1 (List.pairwise_append.1 horder).2.1).1 q hq')

/-- The candidates the first stage of the SPREAD choice keeps: the OPEN ones, and all when none is OPEN (R65). -/
def State.openFirst (s : State) (cands : List Port) : List Port :=
  if (cands.filter fun p => decide (s.queueState p = .opened)).isEmpty then cands
  else cands.filter fun p => decide (s.queueState p = .opened)

/-- Those the second stage keeps: the ones with the fewest pending copies (R65). -/
def State.fewestPending (s : State) (ps : List Port) : List Port :=
  ps.filter fun p => ps.all fun q => decide ((s.outs.get p).pendingCopies ≤ (s.outs.get q).pendingCopies)

theorem State.spreadChoice_eq (s : State) (pointer : Port) (cands : List Port) :
    s.spreadChoice pointer cands =
      (rotationOrder pointer).find? fun p => (s.fewestPending (s.openFirst cands)).contains p := rfl

theorem State.mem_openFirst {s : State} {cands : List Port} {p : Port} :
    p ∈ s.openFirst cands ↔
      p ∈ cands ∧ (s.queueState p = .opened ∨ ∀ q ∈ cands, s.queueState q ≠ .opened) := by
  unfold State.openFirst
  split
  · rename_i hnone
    have hnone : ∀ q ∈ cands, s.queueState q ≠ .opened := by simpa using hnone
    exact ⟨fun h => ⟨h, Or.inr hnone⟩, And.left⟩
  · rename_i hsome
    have hsome : ¬ ∀ q ∈ cands, s.queueState q ≠ .opened := by simpa using hsome
    simp [hsome]

theorem State.openFirst_ne_nil {s : State} {cands : List Port} (h : cands ≠ []) : s.openFirst cands ≠ [] := by
  unfold State.openFirst
  split
  · exact h
  · rename_i hsome
    exact fun hnil => hsome (List.isEmpty_iff.2 hnil)

theorem State.mem_fewestPending {s : State} {ps : List Port} {p : Port} :
    p ∈ s.fewestPending ps ↔
      p ∈ ps ∧ ∀ q ∈ ps, (s.outs.get p).pendingCopies ≤ (s.outs.get q).pendingCopies := by
  simp [State.fewestPending]

theorem State.exists_mem_fewestPending {s : State} {ps : List Port} (h : ps ≠ []) :
    ∃ p, p ∈ s.fewestPending ps := by
  cases hmin : ps.argmin fun p => (s.outs.get p).pendingCopies with
  | none => exact absurd (List.argmin_eq_none.1 hmin) h
  | some p =>
    exact ⟨p, State.mem_fewestPending.2 ⟨List.argmin_mem hmin, fun q hq =>
      List.le_of_mem_argmin (f := fun p => (s.outs.get p).pendingCopies) hq hmin⟩⟩

/-- The SPREAD choice answers for every set of candidates that is not empty: the port of least distance among those
the two stages keep (R65). -/
theorem State.spreadChoice_spec {s : State} {cands : List Port} (pointer : Port) (h : cands ≠ []) :
    ∃ p, s.spreadChoice pointer cands = some p ∧ p ∈ s.fewestPending (s.openFirst cands) ∧
      ∀ q ∈ s.fewestPending (s.openFirst cands), rotationDistance pointer p ≤ rotationDistance pointer q := by
  obtain ⟨q, hq⟩ := State.exists_mem_fewestPending (s := s) (State.openFirst_ne_nil (s := s) h)
  rw [State.spreadChoice_eq]
  cases hfind : (rotationOrder pointer).find? fun p => (s.fewestPending (s.openFirst cands)).contains p with
  | none => exact absurd (List.contains_iff_mem.2 hq) (List.find?_eq_none.1 hfind q (mem_rotationOrder pointer q))
  | some p =>
    obtain ⟨hp, hleast⟩ := find?_rotationOrder hfind
    exact ⟨p, rfl, List.contains_iff_mem.1 hp, fun r hr => hleast r (List.contains_iff_mem.2 hr)⟩

theorem Output.pendingCopies_eq (o : Output) :
    o.pendingCopies = o.express.length + o.standard.length + if o.departing = none then 0 else 1 := by
  unfold Output.pendingCopies
  cases o.departing <;> rfl

/-- Settles O19: the choice passes the three stages. -/
theorem spreadChoiceInThreeStages : Obligations.SpreadChoiceInThreeStages := by
  intro s source h e opened waiting distance hk
  refine ⟨fun cause hc => State.decideRoute_error (by rw [hk]; decide) hc, fun cands hc => ?_⟩
  obtain ⟨hne, -, -⟩ := State.candidates_ok hc
  obtain ⟨p, hchoice, hp, hnearest⟩ := State.spreadChoice_spec (s := s) (s.pointer h.dest) hne
  have hwaiting (q : Port) : (s.outs.get q).pendingCopies = waiting q := Output.pendingCopies_eq _
  simp only [State.mem_fewestPending, State.mem_openFirst, hwaiting] at hp hnearest
  obtain ⟨⟨hmem, hopen⟩, hfewest⟩ := hp
  refine ⟨p, hmem, State.decideRoute_spread hk hc hchoice, fun ⟨q, hq, hqo⟩ => ?_, fun q hq hqo => ?_,
    fun q hq hqo hw => ?_⟩
  · exact hopen.resolve_right fun hnone => hnone q hq hqo
  · exact hfewest q ⟨hq, hqo⟩
  · exact hnearest q ⟨⟨hq, hqo⟩, fun r hr => hw ▸ hfewest r hr⟩

/-! ## The refused members of a FANOUT -/

theorem mem_members {ports : BitVec 7} {p : Port} : p ∈ members ports ↔ ports.getLsbD p.num = true := by
  simp [members, Port.mem_all]

/-- A part of the members, in their order, rises (section 11.4). -/
theorem rising_of_sublist_members {ports : BitVec 7} {ps : List Port} (h : ps.Sublist (members ports)) :
    (ps.map Port.num).Pairwise (· < ·) := by
  have hall : (Port.all.map Port.num).Pairwise (· < ·) := by decide
  exact hall.sublist ((h.trans List.filter_sublist).map Port.num)

/-- The step that refuses a FANOUT's copy at output `p`, if one does: the closed step, and the full step when the
closed one does not remove the port (R67, R69). -/
def State.refusal (s : State) (source : Port) (hops : BitVec 4) (cls : Class) (p : Port) : Option Code :=
  if s.leftOut source hops p then none
  else if s.closedExcluded p then some .portClosed
  else if s.fullExcluded cls p then some .queueFull
  else none

section
variable {s : State} {source : Port} {hops : BitVec 4} {cls : Class}

theorem State.refusal_eq_some {p : Port} {cause : Code} :
    s.refusal source hops cls p = some cause ↔ ¬ s.leftOut source hops p = true ∧
      ((s.closedExcluded p = true ∧ cause = .portClosed) ∨
        (¬ s.closedExcluded p = true ∧ s.fullExcluded cls p = true ∧ cause = .queueFull)) := by
  unfold State.refusal
  by_cases hleft : s.leftOut source hops p = true
  · simp [hleft]
  by_cases hclosed : s.closedExcluded p = true
  · simp [hleft, hclosed, eq_comm (a := cause)]
  by_cases hfull : s.fullExcluded cls p = true <;> simp [hleft, hclosed, hfull, eq_comm (a := cause)]

theorem State.refusedMembers_eq (ms : List Port) :
    s.refusedMembers source hops cls ms =
      ms.filterMap fun p => (s.refusal source hops cls p).map fun cause => (p, cause) := by
  refine congrArg (ms.filterMap ·) (funext fun p => ?_)
  rw [State.refusal, State.leftOut]
  split
  · rfl
  · split
    · rfl
    · split <;> rfl

theorem State.mem_refusedMembers {ms : List Port} {p : Port} {cause : Code} :
    (p, cause) ∈ s.refusedMembers source hops cls ms ↔ p ∈ ms ∧ s.refusal source hops cls p = some cause := by
  simp [State.refusedMembers_eq]

/-- The refused members stand in the order of the members, each once. -/
theorem State.refusedMembers_sublist (s : State) (source : Port) (hops : BitVec 4) (cls : Class) (ms : List Port) :
    ((s.refusedMembers source hops cls ms).map Prod.fst).Sublist ms := by
  have hfst : (s.refusedMembers source hops cls ms).map Prod.fst =
      ms.filter fun p => (s.refusal source hops cls p).isSome := by
    rw [State.refusedMembers_eq, List.map_filterMap, ← List.filterMap_eq_filter]
    refine congrArg (ms.filterMap ·) (funext fun p => ?_)
    cases hr : s.refusal source hops cls p <;> simp [Option.guard, hr]
  rw [hfst]
  exact List.filter_sublist

end

/-- Settles O20: both lists are parts of the members in their order. -/
theorem fanoutCopiesAndRefusals : Obligations.FanoutCopiesAndRefusals := by
  intro s source h e cls left hk
  refine ⟨fun cause hc => State.decideRoute_error (by rw [hk]; decide) hc, fun cands hc => ?_⟩
  obtain ⟨-, hsub, -⟩ := State.candidates_ok hc
  refine ⟨_, State.decideRoute_fanout hk hc, rising_of_sublist_members hsub, ?_, fun p cause => ?_⟩
  · have hrising := rising_of_sublist_members (s.refusedMembers_sublist source h.hops cls (members e.ports))
    rwa [List.map_map] at hrising
  · rw [State.mem_refusedMembers, mem_members, State.refusal_eq_some, State.leftOut_iff,
      State.closedExcluded_iff, State.fullExcluded_iff]

end Sys2Proof.Machine
end

section
/-! PROOFS. What a resolution hands on (sections 3.6, 4.7, 5.1 and 9.4 of the manual): the counters, the copies placed
and the refused members reported, said once each, then the whole event. -/

namespace Sys2Proof.Machine

set_option Elab.async false

/-! ## Counters -/

/-- A counter stays at 4294967295 once there (R174). -/
theorem satAdd_toNat (c : Count32) (n : Nat) : (satAdd c n).toNat = min (c.toNat + n) 4294967295 := by
  have hbound : min (c.toNat + n) 4294967295 < 2 ^ 32 := by omega
  exact (BitVec.toNat_ofNat ..).trans (Nat.mod_eq_of_lt hbound)

@[simp] theorem satAdd_zero (c : Count32) : satAdd c 0 = c := by
  apply BitVec.eq_of_toNat_eq
  rw [satAdd_toNat]
  omega

theorem State.countFrameIn_get (s : State) (source p : Port) :
    (s.countFrameIn source).counters.get p = { s.counters.get p with
      framesIn := satAdd (s.counters.get p).framesIn (if p = source then 1 else 0) } := by
  simp only [State.countFrameIn, PerPort.get_set]
  by_cases hp : p = source <;> simp [hp]

theorem State.countLost_get (s : State) (q p : Port) (n : Nat) :
    (s.countLost q n).counters.get p = { s.counters.get p with
      copiesLost := satAdd (s.counters.get p).copiesLost (if p = q then n else 0) } := by
  simp only [State.countLost, PerPort.get_set]
  by_cases hp : p = q <;> simp [hp]

/-! ## Copies placed -/

/-- The outputs after a copy of frame `d` joined the tail of its class queue at each of some ports (R76). -/
def appendCopies (outs : PerPort Output) (d : DescId) (cls : Class) : List Port → PerPort Output
  | [] => outs
  | p :: rest => appendCopies (outs.set p ((outs.get p).append d cls)) d cls rest

/-- The descriptor after a copy entered the copy set for each of some ports (R43). -/
def Descriptor.placeAll (x : Descriptor) (cls : Class) : List Port → Descriptor
  | [] => x
  | p :: rest => (x.place p cls).placeAll cls rest

theorem appendCopies_get {ps : List Port} (hps : ps.Nodup) (outs : PerPort Output) (d : DescId) (cls : Class)
    (p : Port) : (appendCopies outs d cls ps).get p =
      if p ∈ ps then (outs.get p).append d cls else outs.get p := by
  induction ps generalizing outs with
  | nil => rfl
  | cons q rest ih =>
    obtain ⟨hq, hrest⟩ := List.nodup_cons.1 hps
    rw [appendCopies, ih hrest, PerPort.get_set]
    by_cases hp : p = q
    · subst hp
      simp [hq]
    · simp [hp]

theorem Descriptor.placeAll_copies_get (x : Descriptor) (cls : Class) (ps : List Port) (p : Port) :
    (x.placeAll cls ps).copies.get p = if p ∈ ps then some ⟨cls, .queued⟩ else x.copies.get p := by
  induction ps generalizing x with
  | nil => rfl
  | cons q rest ih =>
    rw [Descriptor.placeAll, ih, Descriptor.place, PerPort.get_set]
    by_cases hp : p = q <;> simp [hp]

/-- Placing copies changes the copy set, and makes the descriptor STORED. -/
theorem Descriptor.placeAll_eq {ps : List Port} (hps : ps ≠ []) (x : Descriptor) (cls : Class) :
    x.placeAll cls ps = { x with state := .stored, copies := (x.placeAll cls ps).copies } := by
  induction ps generalizing x with
  | nil => exact absurd rfl hps
  | cons p rest ih =>
    cases rest with
    | nil => rfl
    | cons q rest => exact (ih (List.cons_ne_nil q rest) (x.place p cls)).trans rfl

/-- The copies of a frame placed one after another are one write of the outputs and one of its descriptor. -/
theorem State.placeCopies_eq {s : State} {d : DescId} {x : Descriptor} (hx : s.desc d = some x) (cls : Class)
    (ps : List Port) : s.placeCopies d cls ps = { s with
      outs := appendCopies s.outs d cls ps
      descs := s.descs.set d.val (some (x.placeAll cls ps)) d.isLt } := by
  induction ps generalizing s x with
  | nil =>
    have hsame : s.descs.set d.val (some x) d.isLt = s.descs := by
      rw [← hx]
      exact Vector.set_getElem_self d.isLt
    rw [Descriptor.placeAll, hsame]
    rfl
  | cons p rest ih =>
    have hone : s.placeCopy d cls p =
        (s.setOut p ((s.outs.get p).append d cls)).setDesc d (some (x.place p cls)) := by
      rw [State.placeCopy_eq, hx]
      rfl
    rw [State.placeCopies, hone, ih (State.desc_setDesc_self ..)]
    simp [State.setDesc, State.setOut, appendCopies, Descriptor.placeAll]

/-! ## Refused members -/

theorem State.reportRefused_counters (s : State) (source : Port) (h : Header) (m : Port × Code) :
    (s.reportRefused source h m).counters = (s.countLost m.1 1).counters := by
  unfold State.reportRefused
  simp only
  split <;> rfl

/-- Each refused member counts once at its own output (R69). -/
theorem State.reportAllRefused_counters_get {ms : List (Port × Code)} (hms : (ms.map Prod.fst).Nodup) (s : State)
    (source : Port) (h : Header) (p : Port) :
    (s.reportAllRefused source h ms).counters.get p = { s.counters.get p with
      copiesLost := satAdd (s.counters.get p).copiesLost (if p ∈ ms.map Prod.fst then 1 else 0) } := by
  induction ms generalizing s with
  | nil => simp [State.reportAllRefused]
  | cons m rest ih =>
    obtain ⟨hm, hrest⟩ := List.nodup_cons.1 hms
    rw [State.reportAllRefused, ih hrest, State.reportRefused_counters, State.countLost_get]
    by_cases hp : p = m.1
    · subst hp
      simp [hm]
    · simp only [List.map_cons, List.mem_cons, hp, if_false, false_or, satAdd_zero]

theorem State.reportRefused_records (s : State) (source : Port) (h : Header) (m : Port × Code) :
    (s.reportRefused source h m).records =
      if source = .p0 then s.records else s.records.append (frameRecord m.2 source (some m.1) (some h)) := by
  cases source <;> rfl

/-- A link source makes one record for each refused member, in their order (R69, R172). -/
theorem State.reportAllRefused_records (s : State) (source : Port) (h : Header) (ms : List (Port × Code)) :
    (s.reportAllRefused source h ms).records =
      if source = .p0 then s.records
      else ms.foldl (fun l m => l.append (frameRecord m.2 source (some m.1) (some h))) s.records := by
  induction ms generalizing s with
  | nil => simp [State.reportAllRefused]
  | cons m rest ih =>
    rw [State.reportAllRefused, ih, State.reportRefused_records]
    by_cases hp : source = .p0 <;> simp [hp]

/-- A resolution refuses each member at most once (R69). -/
theorem State.decideRoute_refused {s : State} {source : Port} {h : Header} {outputs : List Port}
    {refused : List (Port × Code)} {pointer : Option Port}
    (hd : s.decideRoute source h = .place outputs refused pointer) : (refused.map Prod.fst).Nodup := by
  have hmembers : (members (s.entry h.dest).ports).Nodup := List.Nodup.filter _ (by decide)
  unfold State.decideRoute at hd
  simp only at hd
  split at hd
  · cases hd
  · split at hd
    · cases hd
    · cases hd
      exact List.nodup_nil
  · split at hd
    · cases hd
    · split at hd
      · cases hd
        exact List.nodup_nil
      · cases hd
  · split at hd
    · cases hd
    · cases hd
      exact hmembers.sublist (s.refusedMembers_sublist ..)

/-! ## The whole event -/

/-- The part after the copies of a resolution are placed, before the refused members are reported (R70). -/
def State.afterPlacing (s : State) (d : DescId) (x : Descriptor) (source : Port) (h : Header) (outputs : List Port)
    (pointer : Option Port) : State :=
  let cls := copyClass (s.entry h.dest).rule h.cls
  { s with
    counters := (s.countFrameIn source).counters
    outs := appendCopies s.outs d cls outputs
    descs := s.descs.set d.val (some (x.placeAll cls outputs)) d.isLt
    rotation := match pointer with
      | some p => s.rotation.set h.dest.toNat p h.dest.isLt
      | none => s.rotation }

@[simp] theorem State.afterPlacing_outs (s : State) (d : DescId) (x : Descriptor) (source : Port) (h : Header)
    (outputs : List Port) (pointer : Option Port) :
    (s.afterPlacing d x source h outputs pointer).outs =
      appendCopies s.outs d (copyClass (s.entry h.dest).rule h.cls) outputs := rfl

@[simp] theorem State.afterPlacing_counters (s : State) (d : DescId) (x : Descriptor) (source : Port) (h : Header)
    (outputs : List Port) (pointer : Option Port) :
    (s.afterPlacing d x source h outputs pointer).counters = (s.countFrameIn source).counters := rfl

theorem State.resolve_place {s : State} {d : DescId} {x : Descriptor} {source : Port} {h : Header}
    {outputs : List Port} {refused : List (Port × Code)} {pointer : Option Port} (hx : s.desc d = some x)
    (hd : s.decideRoute source h = .place outputs refused pointer) :
    s.resolve d source h = (.place outputs refused pointer,
      (s.afterPlacing d x source h outputs pointer).reportAllRefused source h refused) := by
  have hx' : (s.countFrameIn source).desc d = some x := hx
  unfold State.resolve
  simp only [hd, State.placeCopies_eq hx']
  cases pointer <;> rfl

theorem State.resolve_discard {s : State} {d : DescId} {source : Port} {h : Header} {cause : Code}
    (hd : s.decideRoute source h = .discard cause) :
    s.resolve d source h = (.discard cause, { s.freeDesc d with
      counters := s.counters.set source { s.counters.get source with
        framesIn := satAdd (s.counters.get source).framesIn 1
        discardsIn := satAdd (s.counters.get source).discardsIn 1 }
      records := if source = .p0 then s.records else
        s.records.append (frameRecord cause source none (some h)) }) := by
  have hfree : (s.countFrameIn source).freeDesc d =
      { s.freeDesc d with counters := (s.countFrameIn source).counters } := by
    unfold State.freeDesc
    rw [show (s.countFrameIn source).desc d = s.desc d from rfl]
    cases s.desc d <;> rfl
  have hcount : ((s.countFrameIn source).freeDesc d).countDiscard source = { s.freeDesc d with
      counters := s.counters.set source { s.counters.get source with
        framesIn := satAdd (s.counters.get source).framesIn 1
        discardsIn := satAdd (s.counters.get source).discardsIn 1 } } := by
    rw [hfree]
    simp [State.countDiscard, State.countFrameIn]
  unfold State.resolve
  simp only [hd, hcount]
  cases source <;> simp [Port.link?, State.record]

/-- Settles O21: a discard is one write, and the copies and the refused members are placed and reported one field after
the other. -/
theorem resolutionHandsOnItsOutcome : Obligations.ResolutionHandsOnItsOutcome := by
  refine ⟨satAdd_toNat, fun s d source x h hx =>
    ⟨fun outputs refused pointer hd => ?place, fun cause hd => ?discard⟩⟩
  case discard => exact State.resolve_discard hd
  case place =>
    obtain ⟨hne, hnodup, -⟩ := State.decideRoute_place hd
    have hrefused := State.decideRoute_refused hd
    refine ⟨_, _, State.resolve_place hx hd, ?state, Descriptor.placeAll_eq hne x _,
      Descriptor.placeAll_copies_get x _ outputs, fun p => ?outs, fun p => ?counters⟩
    case state =>
      refine (State.reportAllRefused_frame ..).trans ?_
      rw [State.reportAllRefused_outs, State.reportAllRefused_records]
      rfl
    case outs =>
      rw [State.reportAllRefused_outs, State.afterPlacing_outs, appendCopies_get hnodup]
      cases copyClass (s.entry h.dest).rule h.cls <;> rfl
    case counters =>
      rw [State.reportAllRefused_counters_get hrefused, State.afterPlacing_counters, State.countFrameIn_get]

end Sys2Proof.Machine
end

section
/-! PROOFS. TABLE_WRITE and the four commands that read state (sections 4.3, 8.5 to 8.8 and 11.4 of the manual): the
words they are given, what each ends with, then the two statements. -/

namespace Sys2Proof.Machine

set_option Elab.async false

/-! ## Parameter words -/

theorem word_eq_iff {w : Word} {k : Nat} (hk : k < 65536) : w = BitVec.ofNat 16 k ↔ w.toNat = k := by
  rw [← BitVec.toNat_inj, BitVec.toNat_ofNat, Nat.mod_eq_of_lt hk]

/-- A word above 3 names no entry kind (R181). -/
theorem kindOfWord_none {w : Word} (h : 4 ≤ w.toNat) : kindOfWord w = none := by
  obtain ⟨k, hk⟩ := Nat.exists_eq_add_of_le' h
  rw [kindOfWord, hk]
  rfl

/-- The kind that a word from 1 to 3 names (section 11.4). -/
def memberKind (w : Word) : EntryKind := if w = 1 then .single else if w = 2 then .spread else .fanout

theorem memberKind_ne_invalid (w : Word) : memberKind w ≠ .invalid := by
  unfold memberKind
  split
  · decide
  · split <;> decide

theorem memberKind_eq_single {w : Word} : memberKind w = .single ↔ w = 1 := by
  unfold memberKind
  split
  · simp [*]
  · rename_i hw
    simp only [hw, iff_false]
    split <;> decide

theorem kindOfWord_some {w : Word} (h1 : 1 ≤ w.toNat) (h3 : w.toNat ≤ 3) : kindOfWord w = some (memberKind w) := by
  have hw : w.toNat = 1 ∨ w.toNat = 2 ∨ w.toNat = 3 := by omega
  rcases hw with h | h | h <;> rw [← word_eq_iff (by decide)] at h <;> subst h <;> rfl

/-- A word above 2 names no class rule (R181). -/
theorem ruleOfWord_none {w : Word} (h : 3 ≤ w.toNat) : ruleOfWord w = none := by
  obtain ⟨k, hk⟩ := Nat.exists_eq_add_of_le' h
  rw [ruleOfWord, hk]
  rfl

theorem ruleOfWord_some {w : Word} (h : w.toNat ≤ 2) :
    ruleOfWord w = some (if w = 0 then .keep else if w = 1 then .forceExpress else .forceStandard) := by
  have hw : w.toNat = 0 ∨ w.toNat = 1 ∨ w.toNat = 2 := by omega
  rcases hw with h | h | h <;> rw [← word_eq_iff (by decide)] at h <;> subst h <;> rfl

/-- A word above 4 names no counter (R181). -/
theorem counterOfWord_none {w : Word} (h : 5 ≤ w.toNat) : counterOfWord w = none := by
  obtain ⟨k, hk⟩ := Nat.exists_eq_add_of_le' h
  rw [counterOfWord, hk]
  rfl

/-- The members of a port set are counted by the low seven bits of its word (section 11.4). -/
theorem members_length (w : Word) :
    (members (w.setWidth 7)).length = ((List.range 7).filter fun i => w.getLsbD i).length := by
  have hrange : List.range 7 = Port.all.map Port.num := rfl
  have hbit (p : Port) : (w.setWidth 7).getLsbD p.num = w.getLsbD p.num := by
    have hp : p.num < 7 := by cases p <;> decide
    simp [hp]
  rw [hrange, List.filter_map, List.length_map, members]
  exact congrArg List.length (List.filter_congr fun p _ => hbit p)

theorem port_num (p : LinkId) : p.port.num = p.num := by cases p <;> rfl

/-! ## TABLE_WRITE -/

/-- The contents that the words of TABLE_WRITE after the first give an entry, or `none` when a test of R55 refuses
them. -/
def entryOfWords (w : Words4) : Option Entry :=
  (kindOfWord w.w1).bind fun kind =>
    if kind = .invalid then some Entry.invalid
    else (portsOfWord w.w2).bind fun ports => (ruleOfWord w.w3).bind fun rule =>
      if (kind = .single ∧ (members ports).length ≠ 1) ∨ (members ports).length = 0 then none
      else some ⟨kind, ports, rule⟩

section
variable {w : Words4}

theorem entryOfWords_invalid (h : w.w1 = 0) : entryOfWords w = some Entry.invalid := by
  rw [entryOfWords, h]
  rfl

theorem entryOfWords_none (h : 4 ≤ w.w1.toNat) : entryOfWords w = none := by
  rw [entryOfWords, kindOfWord_none h, Option.bind_none]

/-- For a kind other than INVALID every test reads the words alone (R55). -/
theorem entryOfWords_kind {kind : EntryKind} (hk : kindOfWord w.w1 = some kind) (hne : kind ≠ .invalid) :
    entryOfWords w =
      let count := ((List.range 7).filter fun i => w.w2.getLsbD i).length
      if w.w2.toNat < 128 ∧ w.w3.toNat ≤ 2 ∧ 1 ≤ count ∧ (kind = .single → count = 1) then
        some ⟨kind, w.w2.setWidth 7,
          if w.w3 = 0 then .keep else if w.w3 = 1 then .forceExpress else .forceStandard⟩
      else none := by
  rw [entryOfWords, hk, Option.bind_some, if_neg hne, portsOfWord]
  by_cases hports : w.w2.toNat < 128
  · by_cases hrule : w.w3.toNat ≤ 2
    · rw [if_pos hports, Option.bind_some, ruleOfWord_some hrule, Option.bind_some, members_length]
      simp only [hports, hrule, true_and]
      split
      · rename_i hbad
        exact (if_neg fun ⟨hc, hs⟩ => hbad.elim (fun ⟨hk, hne⟩ => hne (hs hk)) (by omega)).symm
      · rename_i hok
        exact (if_pos ⟨by omega, fun hk => by_contra fun hne => hok (Or.inl ⟨hk, hne⟩)⟩).symm
    · rw [if_pos hports, Option.bind_some, ruleOfWord_none (by omega), Option.bind_none]
      simp [hrule]
  · rw [if_neg hports, Option.bind_none]
    simp [hports]

theorem tableWriteEntry_range (h : 256 ≤ w.w0.toNat) : tableWriteEntry w = .error .badParam := by
  rw [tableWriteEntry, dif_neg (by omega)]

theorem tableWriteEntry_anchored (h1 : 240 ≤ w.w0.toNat) (h2 : w.w0.toNat ≤ 247) :
    tableWriteEntry w = .error .anchored := by
  rw [tableWriteEntry, dif_pos (by omega), if_pos ⟨h1, h2⟩]

theorem tableWriteEntry_eq {n : EntryId} (hn : w.w0.toNat = n.val) (hfree : n.val < 240 ∨ 247 < n.val) :
    tableWriteEntry w = (entryOfWords w).elim (.error .badParam) fun e => .ok (n, e) := by
  have hlt : w.w0.toNat < 256 := hn ▸ n.isLt
  obtain rfl : n = ⟨w.w0.toNat, hlt⟩ := Fin.ext hn.symm
  simp only at hfree
  unfold tableWriteEntry entryOfWords
  rw [dif_pos hlt, if_neg (by omega)]
  cases kindOfWord w.w1 with
  | none => rfl
  | some kind =>
    cases kind with
    | invalid => rfl
    | single | spread | fanout =>
      cases portsOfWord w.w2 with
      | none => rfl
      | some ports =>
        cases ruleOfWord w.w3 with
        | none => rfl
        | some rule =>
          simp only [Option.bind_some, reduceCtorEq, if_false, ite_or]
          split
          · rfl
          · split <;> rfl

end

section
variable {s : State}

theorem exec_tableWrite_of_ready (h : HostReady s) : exec .tableWrite s = .next s.take.runTableWrite :=
  congrArg Host.Outcome.next (State.commandWrite_ready h State.runTableWrite)

theorem exec_tableWrite_error {c : Code} (h : HostReady s) (he : tableWriteEntry s.win.params = .error c) :
    exec .tableWrite s = .next (s.afterCommand c ⟨0, 0, 0, 0⟩) := by
  have he' : tableWriteEntry s.take.win.taken = .error c := he
  rw [exec_tableWrite_of_ready h, State.runTableWrite, he']
  rfl

theorem exec_tableWrite_ok {n : EntryId} {e : Entry} (h : HostReady s)
    (he : tableWriteEntry s.win.params = .ok (n, e)) :
    exec .tableWrite s = .next ({ s with
      table := s.table.set n.val e n.isLt
      rotation := s.rotation.set n.val .p6 n.isLt }.afterCommand .ok ⟨0, 0, 0, 0⟩) := by
  have he' : tableWriteEntry s.take.win.taken = .ok (n, e) := he
  rw [exec_tableWrite_of_ready h, State.runTableWrite, he']
  rfl

end

/-- Settles O44: the entry number, the anchor, then the tests of the words that give the contents. -/
theorem tableWriteTestsAndEffect : Obligations.TableWriteTestsAndEffect := by
  intro s hready w ends writes count
  refine ⟨fun h => exec_tableWrite_error hready (tableWriteEntry_range h),
    fun h1 h2 => exec_tableWrite_error hready (tableWriteEntry_anchored h1 h2), fun n hn hfree => ?_⟩
  have hentry : tableWriteEntry w = (entryOfWords w).elim (.error .badParam) fun e => .ok (n, e) :=
    tableWriteEntry_eq hn hfree
  have hbad (h : entryOfWords w = none) : ends .badParam :=
    exec_tableWrite_error hready (hentry.trans (by rw [h]; rfl))
  have hwrites {e : Entry} (h : entryOfWords w = some e) : writes n e :=
    exec_tableWrite_ok hready (hentry.trans (by rw [h]; rfl))
  refine ⟨fun h => hbad (entryOfWords_none h), fun h => hwrites (entryOfWords_invalid h), fun h1 h3 => ?_⟩
  have hkind := kindOfWord_some h1 h3
  have hcontents := entryOfWords_kind hkind (memberKind_ne_invalid w.w1)
  simp only [memberKind_eq_single] at hcontents
  refine ⟨fun h => hbad (hcontents.trans (if_neg ?_)),
    fun h2 hr hc hs => hwrites (hcontents.trans (if_pos ⟨h2, hr, hc, hs⟩))⟩
  rintro ⟨h2, hr, hc, hs⟩
  rcases h with h | h | h | ⟨h, h'⟩
  · omega
  · omega
  · exact absurd h (Nat.one_le_iff_ne_zero.1 hc)
  · exact h' (hs h)

/-! ## The commands that read state -/

theorem yesNo_isSome {α : Type} [DecidableEq α] (o : Option α) : yesNo o.isSome = if o = none then 0 else 1 := by
  cases o <;> rfl

/-- The FREE descriptors are counted by number (R35). -/
theorem State.freeDescriptors_eq (s : State) :
    s.freeDescriptors = (List.finRange 192).countP fun d => (s.desc d).isNone := by
  have hlist : s.descs.toList = (List.finRange 192).map s.desc := by
    apply List.ext_getElem <;> simp [State.desc]
  rw [State.freeDescriptors, hlist, List.countP_map]
  rfl

section
variable {s : State}

theorem exec_readPool_of_ready (h : HostReady s) : exec .readPool s = .next (s.afterCommand .ok
    ⟨BitVec.ofNat 16 s.pool.freeList.length, BitVec.ofNat 16 s.pool.floor,
      BitVec.ofNat 16 ((List.finRange 192).countP fun d => (s.desc d).isNone), s.stamp⟩) := by
  have hend : exec .readPool s = .next (s.afterCommand .ok
      (results s.pool.freeList.length s.pool.floor s.freeDescriptors s.stamp.toNat)) :=
    congrArg Host.Outcome.next (State.commandWrite_ready h State.runReadPool)
  rw [hend, results, BitVec.ofNat_toNat, BitVec.setWidth_eq, State.freeDescriptors_eq]

theorem exec_tableRead_of_ready (h : HostReady s) : exec .tableRead s = .next s.take.runTableRead :=
  congrArg Host.Outcome.next (State.commandWrite_ready h State.runTableRead)

theorem exec_tableRead_range (h : HostReady s) (hw : 256 ≤ s.win.params.w0.toNat) :
    exec .tableRead s = .next (s.afterCommand .badParam ⟨0, 0, 0, 0⟩) := by
  have hw' : ¬ s.take.win.taken.w0.toNat < 256 := Nat.not_lt.2 hw
  rw [exec_tableRead_of_ready h, State.runTableRead, dif_neg hw']
  rfl

theorem exec_tableRead_entry {n : EntryId} (h : HostReady s) (hn : s.win.params.w0.toNat = n.val) :
    exec .tableRead s = .next (s.afterCommand .ok
      ⟨BitVec.ofNat 16 (kindValue s.table[n].kind), s.table[n].ports.setWidth 16,
        BitVec.ofNat 16 (ruleValue s.table[n].rule), BitVec.ofNat 16 s.rotation[n].num⟩) := by
  have hlt : s.win.params.w0.toNat < 256 := hn ▸ n.isLt
  obtain rfl : n = ⟨s.win.params.w0.toNat, hlt⟩ := Fin.ext hn.symm
  have hlt' : s.take.win.taken.w0.toNat < 256 := hlt
  rw [exec_tableRead_of_ready h, State.runTableRead, dif_pos hlt', ← BitVec.ofNat_toNat]
  rfl

theorem exec_readPort_of_ready (h : HostReady s) : exec .readPort s = .next s.take.runReadPort :=
  congrArg Host.Outcome.next (State.commandWrite_ready h State.runReadPort)

theorem exec_readPort_none (h : HostReady s) (hw : portOfWord s.win.params.w0 = none) :
    exec .readPort s = .next (s.afterCommand .badParam ⟨0, 0, 0, 0⟩) := by
  have hw' : portOfWord s.take.win.taken.w0 = none := hw
  rw [exec_readPort_of_ready h, State.runReadPort, hw']
  rfl

theorem exec_readPort_host (h : HostReady s) (hw : portOfWord s.win.params.w0 = some .p0) :
    exec .readPort s = .next (s.afterCommand .ok s.hostPortResults) := by
  have hw' : portOfWord s.take.win.taken.w0 = some .p0 := hw
  rw [exec_readPort_of_ready h, State.runReadPort, hw']
  rfl

theorem exec_readPort_link {p : LinkId} (h : HostReady s) (hw : portOfWord s.win.params.w0 = some p.port) :
    exec .readPort s = .next (s.afterCommand .ok (s.linkPortResults p)) := by
  have hw' : portOfWord s.take.win.taken.w0 = some p.port := hw
  rw [exec_readPort_of_ready h, State.runReadPort, hw']
  simp only [LinkId.link_port]
  rfl

theorem exec_readCounter_of_ready (h : HostReady s) : exec .readCounter s = .next s.take.runReadCounter :=
  congrArg Host.Outcome.next (State.commandWrite_ready h State.runReadCounter)

/-- The counter that READ_COUNTER's first two words name (R158). -/
def State.namedCounter (s : State) (w : Words4) : Option Count32 :=
  (portOfWord w.w0).bind fun p => (counterOfWord w.w1).bind (s.counterValue p)

theorem State.runReadCounter_eq (s : State) :
    s.runReadCounter = match s.namedCounter s.win.taken with
      | some v => s.endCommand .ok ⟨v.extractLsb' 16 16, v.extractLsb' 0 16, 0, 0⟩
      | none => s.endPlain .badParam := by
  unfold State.runReadCounter State.namedCounter
  cases portOfWord s.win.taken.w0 with
  | none => rfl
  | some p =>
    cases counterOfWord s.win.taken.w1 with
    | none => rfl
    | some c => rfl

theorem exec_readCounter_none (h : HostReady s) (hv : s.namedCounter s.win.params = none) :
    exec .readCounter s = .next (s.afterCommand .badParam ⟨0, 0, 0, 0⟩) := by
  have hv' : s.take.namedCounter s.take.win.taken = none := hv
  rw [exec_readCounter_of_ready h, State.runReadCounter_eq, hv']
  rfl

theorem exec_readCounter_some {v : Count32} (h : HostReady s) (hv : s.namedCounter s.win.params = some v) :
    exec .readCounter s = .next (s.afterCommand .ok ⟨v.extractLsb' 16 16, v.extractLsb' 0 16, 0, 0⟩) := by
  have hv' : s.take.namedCounter s.take.win.taken = some v := hv
  rw [exec_readCounter_of_ready h, State.runReadCounter_eq, hv']
  rfl

/-- No port above 6, no counter above 4, and no LINK_FAULTS of port 0 (R158). -/
theorem State.namedCounter_none {w : Words4} (h : 7 ≤ w.w0.toNat ∨ 5 ≤ w.w1.toNat ∨ (w.w0 = 0 ∧ w.w1 = 4)) :
    s.namedCounter w = none := by
  unfold State.namedCounter
  rcases h with h | h | ⟨h0, h4⟩
  · rw [portOfWord_none h, Option.bind_none]
  · rw [counterOfWord_none h]
    exact Option.bind_eq_none_iff.2 fun _ _ => rfl
  · rw [h0, h4]
    rfl

theorem State.namedCounter_some {w : Words4} {p : Port} {c : CounterName} (hp : w.w0.toNat = p.num)
    (hc : counterOfWord w.w1 = some c) : s.namedCounter w = s.counterValue p c := by
  rw [State.namedCounter, portOfWord_num hp, Option.bind_some, hc, Option.bind_some]

end

/-- Settles O45, command by command. -/
theorem readingCommands : Obligations.ReadingCommands := by
  refine ⟨rfl, rfl, rfl, rfl, fun s hready => ?_⟩
  intro w word
  refine ⟨exec_readPool_of_ready hready,
    ⟨exec_tableRead_range hready, fun n hn => exec_tableRead_entry hready hn⟩,
    ⟨fun h => ?portRange, fun h => ?hostPort, fun p hp => ?linkPort⟩,
    fun h => ?counterRange, fun p v hp hv => ?counter⟩
  case portRange => exact exec_readPort_none hready (portOfWord_none h)
  case hostPort =>
    have hport : portOfWord w.w0 = some .p0 := by rw [h]; rfl
    exact exec_readPort_host hready hport
  case linkPort =>
    rw [exec_readPort_link hready (portOfWord_num (hp.trans (port_num p).symm)), State.linkPortResults, yesNo_isSome,
      State.queueState, LinkId.link_port]
    rfl
  case counterRange => exact exec_readCounter_none hready (State.namedCounter_none h)
  case counter =>
    have named {c : CounterName} (hc : counterOfWord w.w1 = some c) (hval : s.counterValue p c = some v) :=
      exec_readCounter_some hready ((State.namedCounter_some hp hc).trans hval)
    rcases hv with ⟨hc, hval⟩ | ⟨hc, hval⟩ | ⟨hc, hval⟩ | ⟨hc, hval⟩ | ⟨hc, l, hl, hval⟩
    · exact named (c := .framesIn) (by rw [hc]; rfl) (congrArg some hval.symm)
    · exact named (c := .discardsIn) (by rw [hc]; rfl) (congrArg some hval.symm)
    · exact named (c := .framesOut) (by rw [hc]; rfl) (congrArg some hval.symm)
    · exact named (c := .copiesLost) (by rw [hc]; rfl) (congrArg some hval.symm)
    · exact named (c := .linkFaults) (by rw [hc]; rfl) (by rw [State.counterValue, hl, hval]; rfl)

end Sys2Proof.Machine
end

section
/-! LAWS. The output laws and the timer laws port by port (Laws 5 and 7, R75, R77, R83, R90, R99 of the manual): what
each says of one output, of one link and of the host window, and what a change at one place does to them. -/

namespace Sys2Proof.Machine

set_option Elab.async false

/-! ## The laws at one place -/

/-- Law 5 and the bounds of the yield run at one output (R75, R83). -/
structure Output.Bounded (o : Output) : Prop where
  express : o.express.length ≤ 32
  standard : o.standard.length ≤ 32
  yieldRun : o.yieldRun ≤ o.yieldCount
  yieldCount : o.yieldCount ≤ 15

/-- The output laws at one link: its queue state, hold timer and stall timer go with its output and its link state
(R77, R86, R90). -/
structure LinkOutput.Fits (i : LinkOutput) (o : Output) (state : LinkState) : Prop where
  departing : o.departing ≠ none → state = .run
  opened : i.queueState = .opened ↔ state = .run
  disabled : state = .disabled → i.queueState = .closed
  closed : i.queueState = .closed → o.express = [] ∧ o.standard = []
  hold : i.holdTimer ≠ .stopped ↔ i.queueState = .held
  stall : i.stallTimer ≠ .stopped → ∃ dep, o.departing = some dep ∧ dep.waiting = true

/-- The output laws at port 0: a copy departs exactly in READ_PHASE, and an applied hard reset holds the engine in
INITIALISING (Law 7, R140). -/
structure Window.HostFits (w : Window) (slot : Option Departure) : Prop where
  applied : w.resetApplied = true → w.engine = .initialising
  slot : slot ≠ none ↔ ∃ cursor, w.engine = .readPhase cursor

/-- The timer laws at one link port (R99, R116). -/
structure LinkPort.Timed (l : LinkPort) : Prop where
  silence : l.silenceTimer ≠ .stopped ↔ l.state = .sync ∨ l.state = .run
  sync : l.syncTimer ≠ .stopped ↔ l.state = .sync
  recovery : l.recoveryTimer ≠ .stopped → l.state = .faulted
  restart : l.restartRequest = true → l.state = .faulted

theorem outputLaws_iff {s : State} : OutputLaws s ↔ (∀ p, (s.outs.get p).Bounded) ∧
    (∀ p, (s.linkOuts.get p).Fits (s.outs.get p.port) (s.links.get p).state) ∧
    s.win.HostFits (s.outs.get .p0).departing :=
  ⟨fun h => ⟨fun p => ⟨(h.queueCap p).1, (h.queueCap p).2, (h.yieldRun p).1, (h.yieldRun p).2⟩,
      fun p => ⟨h.departingInRun p, h.openInRun p, h.closedWhenDisabled p, h.closedEmpty p, h.holdTimer p,
        h.stallTimer p⟩, ⟨h.applied, h.hostSlot⟩⟩,
    fun ⟨hb, hf, hw⟩ => {
      queueCap := fun p => ⟨(hb p).express, (hb p).standard⟩
      yieldRun := fun p => ⟨(hb p).yieldRun, (hb p).yieldCount⟩
      departingInRun := fun p => (hf p).departing
      openInRun := fun p => (hf p).opened
      closedWhenDisabled := fun p => (hf p).disabled
      closedEmpty := fun p => (hf p).closed
      holdTimer := fun p => (hf p).hold
      stallTimer := fun p => (hf p).stall
      applied := hw.applied
      hostSlot := hw.slot }⟩

theorem timerLaws_iff {s : State} : TimerLaws s ↔ ∀ p, (s.links.get p).Timed :=
  ⟨fun h p => ⟨h.silence p, h.sync p, h.recovery p, h.restart p⟩,
    fun h => ⟨fun p => (h p).silence, fun p => (h p).sync, fun p => (h p).recovery, fun p => (h p).restart⟩⟩

/-! ## The state and the timers of a link port -/

/-- What the laws read of a link port: its state, its restart request and its three timers. -/
def LinkPort.clocks (l : LinkPort) : LinkState × Bool × Timer × Timer × Timer :=
  (l.state, l.restartRequest, l.silenceTimer, l.syncTimer, l.recoveryTimer)

theorem LinkPort.clocks_eq_iff {l m : LinkPort} : l.clocks = m.clocks ↔ l.state = m.state ∧
    l.restartRequest = m.restartRequest ∧ l.silenceTimer = m.silenceTimer ∧ l.syncTimer = m.syncTimer ∧
    l.recoveryTimer = m.recoveryTimer := by
  simp [LinkPort.clocks]

theorem LinkPort.Timed.congr {l m : LinkPort} (h : l.Timed) (hm : m.clocks = l.clocks) : m.Timed := by
  obtain ⟨hstate, hrestart, hsilence, hsync, hrecovery⟩ := LinkPort.clocks_eq_iff.1 hm
  constructor
  · rw [hstate, hsilence]; exact h.silence
  · rw [hstate, hsync]; exact h.sync
  · rw [hstate, hrecovery]; exact h.recovery
  · rw [hstate, hrestart]; exact h.restart

/-- One link port is written, and neither its state nor a timer of it. -/
theorem clocks_setLink {s t : State} {p : LinkId} {l : LinkPort} (links : t.links = s.links.set p l)
    (hl : l.clocks = (s.links.get p).clocks) (q : LinkId) : (t.links.get q).clocks = (s.links.get q).clocks := by
  rw [links, PerLink.get_set]
  split
  · rename_i hq
    rw [hq, hl]
  · rfl

/-! ## What a change keeps -/

/-- What leads from `s` to `t` keeps the output laws and the timer laws, each without the other. -/
structure LawsKept (s t : State) : Prop where
  outputs : OutputLaws s → OutputLaws t
  timers : TimerLaws s → TimerLaws t

theorem LawsKept.refl (s : State) : LawsKept s s := ⟨id, id⟩

theorem LawsKept.trans {s t u : State} (h : LawsKept s t) (h' : LawsKept t u) : LawsKept s u :=
  ⟨h'.outputs ∘ h.outputs, h'.timers ∘ h.timers⟩

/-- Nothing changes that the laws read. -/
theorem lawsKept_of_same {s t : State} (outs : t.outs = s.outs) (linkOuts : t.linkOuts = s.linkOuts)
    (clocks : ∀ p, (t.links.get p).clocks = (s.links.get p).clocks) (engine : t.win.engine = s.win.engine)
    (applied : t.win.resetApplied = s.win.resetApplied) : LawsKept s t where
  outputs h := by
    obtain ⟨hb, hf, hw⟩ := outputLaws_iff.1 h
    refine outputLaws_iff.2 ⟨fun p => ?_, fun p => ?_, ?_⟩
    · rw [outs]
      exact hb p
    · rw [outs, linkOuts, (LinkPort.clocks_eq_iff.1 (clocks p)).1]
      exact hf p
    · rw [outs]
      exact ⟨by rw [applied, engine]; exact hw.applied, by rw [engine]; exact hw.slot⟩
  timers h := timerLaws_iff.2 fun p => (timerLaws_iff.1 h p).congr (clocks p)

/-- One link changes: its output, its link items, its port. -/
theorem lawsKept_at {s t : State} {p : LinkId} {o : Output} {i : LinkOutput} {l : LinkPort}
    (outs : t.outs = s.outs.set p.port o) (linkOuts : t.linkOuts = s.linkOuts.set p i)
    (links : t.links = s.links.set p l) (engine : t.win.engine = s.win.engine)
    (applied : t.win.resetApplied = s.win.resetApplied) (bounded : (s.outs.get p.port).Bounded → o.Bounded)
    (fits : (s.linkOuts.get p).Fits (s.outs.get p.port) (s.links.get p).state → i.Fits o l.state)
    (timed : (s.links.get p).Timed → l.Timed) : LawsKept s t where
  outputs h := by
    obtain ⟨hb, hf, hw⟩ := outputLaws_iff.1 h
    refine outputLaws_iff.2 ⟨fun q => ?_, fun q => ?_, ?_⟩
    · rw [outs, PerPort.get_set]
      split
      · exact bounded (hb p.port)
      · exact hb q
    · rw [outs, linkOuts, links]
      by_cases hq : q = p
      · subst hq
        simpa using fits (hf q)
      · have hport : q.port ≠ p.port := fun h => hq (LinkId.port_inj.1 h)
        rw [PerPort.get_set_ne _ _ hport, PerLink.get_set_ne _ _ hq, PerLink.get_set_ne _ _ hq]
        exact hf q
    · rw [outs, PerPort.get_set_ne _ _ p.port_ne_p0.symm]
      exact ⟨by rw [applied, engine]; exact hw.applied, by rw [engine]; exact hw.slot⟩
  timers h := by
    refine timerLaws_iff.2 fun q => ?_
    rw [links, PerLink.get_set]
    split
    · exact timed (timerLaws_iff.1 h p)
    · exact timerLaws_iff.1 h q

/-- The port of one link changes. -/
theorem lawsKept_at_link {s t : State} {p : LinkId} {l : LinkPort} (outs : t.outs = s.outs)
    (linkOuts : t.linkOuts = s.linkOuts) (links : t.links = s.links.set p l) (engine : t.win.engine = s.win.engine)
    (applied : t.win.resetApplied = s.win.resetApplied)
    (fits : (s.linkOuts.get p).Fits (s.outs.get p.port) (s.links.get p).state →
      (s.linkOuts.get p).Fits (s.outs.get p.port) l.state)
    (timed : (s.links.get p).Timed → l.Timed) : LawsKept s t :=
  lawsKept_at (outs.trans (PerPort.set_get ..).symm) (linkOuts.trans (PerLink.set_get ..).symm) links engine applied id
    fits timed

/-- The output and the link items of one link change. -/
theorem lawsKept_at_output {s t : State} {p : LinkId} {o : Output} {i : LinkOutput}
    (outs : t.outs = s.outs.set p.port o) (linkOuts : t.linkOuts = s.linkOuts.set p i) (links : t.links = s.links)
    (engine : t.win.engine = s.win.engine) (applied : t.win.resetApplied = s.win.resetApplied)
    (bounded : (s.outs.get p.port).Bounded → o.Bounded)
    (fits : (s.linkOuts.get p).Fits (s.outs.get p.port) (s.links.get p).state → i.Fits o (s.links.get p).state) :
    LawsKept s t :=
  lawsKept_at outs linkOuts (links.trans (PerLink.set_get ..).symm) engine applied bounded fits id

/-- The output of port 0 and the window change. -/
theorem lawsKept_at_host {s t : State} {o : Output} (outs : t.outs = s.outs.set .p0 o)
    (linkOuts : t.linkOuts = s.linkOuts) (links : t.links = s.links)
    (bounded : (s.outs.get .p0).Bounded → o.Bounded)
    (fits : s.win.HostFits (s.outs.get .p0).departing → t.win.HostFits o.departing) : LawsKept s t where
  outputs h := by
    obtain ⟨hb, hf, hw⟩ := outputLaws_iff.1 h
    refine outputLaws_iff.2 ⟨fun q => ?_, fun q => ?_, ?_⟩
    · rw [outs, PerPort.get_set]
      split
      · exact bounded (hb .p0)
      · exact hb q
    · rw [outs, linkOuts, links, PerPort.get_set_ne _ _ q.port_ne_p0]
      exact hf q
    · rw [outs, PerPort.get_set_self]
      exact fits hw
  timers h := by
    rw [timerLaws_iff, links]
    exact timerLaws_iff.1 h

/-- The window changes. -/
theorem lawsKept_of_window {s t : State} (outs : t.outs = s.outs) (linkOuts : t.linkOuts = s.linkOuts)
    (links : t.links = s.links)
    (fits : s.win.HostFits (s.outs.get .p0).departing → t.win.HostFits (s.outs.get .p0).departing) : LawsKept s t :=
  lawsKept_at_host (outs.trans (PerPort.set_get ..).symm) linkOuts links id fits

/-! ## One output -/

/-- The queues of an output emptied (R89), whatever becomes of its slot. -/
theorem Output.Bounded.emptied {o : Output} (h : o.Bounded) (slot : Option Departure) :
    ({ o with express := [], standard := [], departing := slot } : Output).Bounded :=
  ⟨Nat.zero_le _, Nat.zero_le _, h.yieldRun, h.yieldCount⟩

theorem Output.Bounded.slot {o : Output} (h : o.Bounded) (slot : Option Departure) :
    ({ o with departing := slot } : Output).Bounded :=
  ⟨h.express, h.standard, h.yieldRun, h.yieldCount⟩

/-- A copy joins a class queue with room for it (R76). -/
theorem Output.Bounded.append {o : Output} (h : o.Bounded) (d : DescId) {cls : Class}
    (room : (o.queue cls).length < 32) : (o.append d cls).Bounded := by
  cases cls with
  | express => exact ⟨by simpa [Output.append, Output.queue] using room, h.standard, h.yieldRun, h.yieldCount⟩
  | standard => exact ⟨h.express, by simpa [Output.append, Output.queue] using room, h.yieldRun, h.yieldCount⟩

/-- The yield run stays within 0 to Y when a copy is taken (R83). -/
theorem Output.takeNext_yieldRun {o u : Output} {d : DescId} {cls : Class} (ht : o.takeNext = some (d, cls, u))
    (h : o.yieldRun ≤ o.yieldCount) : u.yieldRun ≤ o.yieldCount := by
  unfold Output.takeNext at ht
  split at ht
  · rename_i hs
    cases ht
    simp [Output.runAfterExpress, hs]
  · rename_i hs
    split at ht
    · rename_i hturn
      cases ht
      simp only [Output.expressTurn, hs, List.isEmpty_cons, Bool.false_or, Bool.or_eq_true, decide_eq_true_eq] at hturn
      simp only [Output.runAfterExpress, hs, List.isEmpty_cons, Bool.false_eq_true, if_false]
      split <;> omega
    · cases ht
      exact Nat.zero_le _
  · cases ht
    exact Nat.zero_le _
  · cases ht

theorem Output.Bounded.takeNext {o u : Output} {d : DescId} {cls : Class} (h : o.Bounded)
    (ht : o.takeNext = some (d, cls, u)) : u.Bounded := by
  obtain ⟨-, hcount, hqueues⟩ := Output.takeNext_some ht
  have hrun : u.yieldRun ≤ u.yieldCount := hcount ▸ Output.takeNext_yieldRun ht h.yieldRun
  have hmax : u.yieldCount ≤ 15 := hcount ▸ h.yieldCount
  have hexpress := h.express
  have hstandard := h.standard
  rcases hqueues with ⟨-, he, hs⟩ | ⟨-, hs, he, -⟩
  · rw [he, List.length_cons] at hexpress
    exact ⟨by omega, hs ▸ hstandard, hrun, hmax⟩
  · rw [hs, List.length_cons] at hstandard
    exact ⟨he ▸ hexpress, by omega, hrun, hmax⟩

/-! ## One link -/

section
variable {i : LinkOutput} {o : Output} {state : LinkState}

/-- With an empty slot the stall timer is stopped (R86). -/
theorem LinkOutput.Fits.stall_stopped (h : i.Fits o state) (hslot : o.departing = none) : i.stallTimer = .stopped := by
  by_contra hrun
  obtain ⟨dep, hdep, -⟩ := h.stall hrun
  rw [hslot] at hdep
  cases hdep

/-- Outside RUN the slot is empty (Law 7). -/
theorem LinkOutput.Fits.slot_empty (h : i.Fits o state) (hstate : state ≠ .run) : o.departing = none := by
  by_contra hdep
  exact hstate (h.departing hdep)

/-- A CLOSED queue, empty and with nothing departing, goes with every link state but RUN. -/
theorem LinkOutput.fits_closed (hstate : state ≠ .run) (queueState : i.queueState = .closed)
    (hold : i.holdTimer = .stopped) (stall : i.stallTimer = .stopped) (slot : o.departing = none)
    (express : o.express = []) (standard : o.standard = []) : i.Fits o state where
  departing h := absurd slot h
  opened := by simp [queueState, hstate]
  disabled _ := queueState
  closed _ := ⟨express, standard⟩
  hold := by simp [queueState, hold]
  stall h := absurd stall h

/-- A HELD queue under its hold timer goes with FAULTED (R90). -/
theorem LinkOutput.fits_held (queueState : i.queueState = .held) (hold : i.holdTimer ≠ .stopped)
    (stall : i.stallTimer = .stopped) (slot : o.departing = none) : i.Fits o .faulted where
  departing h := absurd slot h
  opened := by simp [queueState]
  disabled h := by cases h
  closed h := by rw [queueState] at h; cases h
  hold := by simp [queueState, hold]
  stall h := absurd stall h

/-- The link moves between states other than RUN, and not to DISABLED. -/
theorem LinkOutput.Fits.move {new : LinkState} (h : i.Fits o state) (hold : state ≠ .run) (hnew : new ≠ .run)
    (hdisabled : new ≠ .disabled) : i.Fits o new where
  departing hdep := absurd (h.departing hdep) hold
  opened := by rw [h.opened]; simp [hold, hnew]
  disabled h := absurd h hdisabled
  closed := h.closed
  hold := h.hold
  stall := h.stall

/-- The queues of an output emptied in their place (R89). -/
theorem LinkOutput.Fits.emptied (h : i.Fits o state) : i.Fits { o with express := [], standard := [] } state :=
  { h with closed := fun _ => ⟨rfl, rfl⟩ }

end

/-- A code that is not 0 starts a timer (R80). -/
theorem timerOfCode_running {code : Byte} (h : code ≠ 0) : timerOfCode code ≠ .stopped := by
  rw [timerOfCode, if_neg h]
  exact Timer.noConfusion

/-! ## The host window -/

/-- Outside READ_PHASE no copy departs at port 0 (Law 7). -/
theorem Window.HostFits.slot_empty {w : Window} {slot : Option Departure} (h : w.HostFits slot)
    (hphase : ∀ cursor, w.engine ≠ .readPhase cursor) : slot = none := by
  by_contra hslot
  obtain ⟨cursor, hread⟩ := h.slot.1 hslot
  exact hphase cursor hread

/-- A window with no hard reset applied and the engine outside READ_PHASE goes with an empty slot. -/
theorem Window.hostFits_empty {w : Window} (happlied : w.resetApplied = false)
    (hphase : ∀ cursor, w.engine ≠ .readPhase cursor) : w.HostFits none where
  applied h := by rw [happlied] at h; cases h
  slot := ⟨fun h => absurd rfl h, fun ⟨cursor, h⟩ => absurd h (hphase cursor)⟩

end Sys2Proof.Machine
end

section
/-! LAWS. The output laws and the timer laws under the shared operations: copies released, outputs purged, links lost and
entered, frames received, and route resolution. -/

namespace Sys2Proof.Machine

set_option Elab.async false

/-! ## Departing copies and purges -/

@[simp] theorem State.dropDeparting_outs (s : State) (p : LinkId) :
    (s.dropDeparting p).outs = s.outs.set p.port { s.outs.get p.port with departing := none } := by
  unfold State.dropDeparting
  cases hdep : (s.outs.get p.port).departing with
  | none =>
    have hsame : ({ s.outs.get p.port with departing := none } : Output) = s.outs.get p.port := by rw [← hdep]
    rw [hsame, PerPort.set_get]
  | some dep => simp

/-- The link items of an output after its slot, which held what is given, was emptied: the stall timer stops with a
copy that leaves (R86). -/
def LinkOutput.cut (i : LinkOutput) (slot : Option Departure) : LinkOutput :=
  { i with stallTimer := if slot = none then i.stallTimer else .stopped }

@[simp] theorem State.dropDeparting_linkOuts (s : State) (p : LinkId) :
    (s.dropDeparting p).linkOuts =
      s.linkOuts.set p ((s.linkOuts.get p).cut (s.outs.get p.port).departing) := by
  unfold State.dropDeparting
  cases (s.outs.get p.port).departing with
  | none => exact (PerLink.set_get ..).symm
  | some dep => simp [LinkOutput.cut]

@[simp] theorem State.dropDeparting_links (s : State) (p : LinkId) : (s.dropDeparting p).links = s.links := by
  unfold State.dropDeparting
  cases (s.outs.get p.port).departing with
  | none => rfl
  | some dep => simp

/-- With the laws at the link the stall timer is stopped once the slot is empty. -/
theorem LinkOutput.Fits.cut_stall {i : LinkOutput} {o : Output} {state : LinkState} (h : i.Fits o state) :
    (i.cut o.departing).stallTimer = .stopped := by
  unfold LinkOutput.cut
  simp only
  split
  · rename_i hslot
    exact h.stall_stopped hslot
  · rfl

theorem lawsKept_dropDeparting (s : State) (p : LinkId) : LawsKept s (s.dropDeparting p) :=
  lawsKept_at_output (s.dropDeparting_outs p) (s.dropDeparting_linkOuts p) (s.dropDeparting_links p) (by simp)
    (by simp) (fun h => h.slot none) fun h => { h with
      departing := fun hdep => absurd rfl hdep
      stall := fun hrun => absurd h.cut_stall hrun }

/-- An output is written with its slot kept and no queue filled. -/
theorem lawsKept_setOut {s t : State} {p : Port} {o : Output} (outs : t.outs = s.outs.set p o)
    (linkOuts : t.linkOuts = s.linkOuts) (links : t.links = s.links) (win : t.win = s.win)
    (bounded : (s.outs.get p).Bounded → o.Bounded) (slot : o.departing = (s.outs.get p).departing)
    (express : (s.outs.get p).express = [] → o.express = [])
    (standard : (s.outs.get p).standard = [] → o.standard = []) : LawsKept s t := by
  cases hp : p.link? with
  | none =>
    have hp0 : p = .p0 := by cases p <;> simp [Port.link?] at hp ⊢
    subst hp0
    exact lawsKept_at_host outs linkOuts links bounded fun h => by rw [win, slot]; exact h
  | some l =>
    have hpl := Port.link_eq_some.1 hp
    subst hpl
    exact lawsKept_at_output outs (linkOuts.trans (PerLink.set_get ..).symm) links (by rw [win]) (by rw [win]) bounded
      fun h => {
        departing := by rw [slot]; exact h.departing
        opened := h.opened
        disabled := h.disabled
        closed := fun hclosed => ⟨express (h.closed hclosed).1, standard (h.closed hclosed).2⟩
        hold := h.hold
        stall := by rw [slot]; exact h.stall }

theorem lawsKept_purge (s : State) (p : Port) : LawsKept s (s.purge p) :=
  lawsKept_setOut (s.purge_outs p) (by simp) (by simp) (by simp) (fun h => h.emptied _) rfl (fun _ => rfl) fun _ => rfl

theorem lawsKept_countLost (s : State) (p : Port) (n : Nat) : LawsKept s (s.countLost p n) :=
  lawsKept_of_same rfl rfl (fun _ => rfl) rfl rfl

theorem lawsKept_countDelivered (s : State) (p : Port) : LawsKept s (s.countDelivered p) :=
  lawsKept_of_same rfl rfl (fun _ => rfl) rfl rfl

theorem lawsKept_record (s : State) (r : Record) : LawsKept s (s.record r) :=
  lawsKept_of_same rfl rfl (fun _ => rfl) rfl rfl

@[simp] theorem State.purgeLost_outs (s : State) (p : LinkId) :
    (s.purgeLost p).outs = s.outs.set p.port { s.outs.get p.port with express := [], standard := [] } := by
  unfold State.purgeLost
  simp only
  split <;> simp

@[simp] theorem State.purgeLost_linkOuts (s : State) (p : LinkId) : (s.purgeLost p).linkOuts = s.linkOuts := by
  unfold State.purgeLost
  simp only
  split <;> simp

@[simp] theorem State.purgeLost_links (s : State) (p : LinkId) : (s.purgeLost p).links = s.links := by
  unfold State.purgeLost
  simp only
  split <;> simp

/-! ## Faults -/

@[simp] theorem State.loseFrame_outs (s : State) (p : LinkId) : (s.loseFrame p).outs = s.outs := by
  cases hrx : (s.links.get p).rx with
  | none => rw [State.loseFrame_none hrx]
  | some f =>
    rw [State.loseFrame_some hrx, State.dropFrame]
    cases f.disposition <;> simp

@[simp] theorem State.loseFrame_linkOuts (s : State) (p : LinkId) : (s.loseFrame p).linkOuts = s.linkOuts := by
  cases hrx : (s.links.get p).rx with
  | none => rw [State.loseFrame_none hrx]
  | some f =>
    rw [State.loseFrame_some hrx, State.dropFrame]
    cases f.disposition <;> simp

@[simp] theorem State.loseFrame_links (s : State) (p : LinkId) :
    (s.loseFrame p).links = s.links.set p { s.links.get p with rx := none } := by
  cases hrx : (s.links.get p).rx with
  | none =>
    have hsame : ({ s.links.get p with rx := none } : LinkPort) = s.links.get p := by rw [← hrx]
    rw [State.loseFrame_none hrx, hsame, PerLink.set_get]
  | some f => simp [State.loseFrame_some hrx, State.dropFrame_links]

@[simp] theorem State.returnReserve_outs (s : State) (p : LinkId) : (s.returnReserve p).outs = s.outs := rfl
@[simp] theorem State.returnReserve_linkOuts (s : State) (p : LinkId) : (s.returnReserve p).linkOuts = s.linkOuts := rfl
@[simp] theorem State.returnReserve_links (s : State) (p : LinkId) : (s.returnReserve p).links = s.links := rfl

/-- The cut at a fault (R90) is a departing copy dropped, whether there is one or not; then the hold code decides. -/
theorem State.outputAtFault_eq (s : State) (p : LinkId) : ∃ u : State, u = { s.dropDeparting p with
      counters := u.counters } ∧
    s.outputAtFault p = if (s.linkOuts.get p).holdCode = 0 then (u.purgeLost p).setQueueState p .closed .stopped
      else u.setQueueState p .held (timerOfCode (s.linkOuts.get p).holdCode) := by
  unfold State.outputAtFault
  cases hdep : (s.outs.get p.port).departing with
  | none =>
    have hsame : s.dropDeparting p = s := by simp only [State.dropDeparting, hdep]
    exact ⟨s, by rw [hsame], rfl⟩
  | some dep => exact ⟨(s.dropDeparting p).countLost p.port 1, rfl, rfl⟩

@[simp] theorem State.outputAtFault_links (s : State) (p : LinkId) : (s.outputAtFault p).links = s.links := by
  obtain ⟨u, hu, heq⟩ := s.outputAtFault_eq p
  have hlinks : u.links = s.links := by rw [hu]; simp
  rw [heq]
  split <;> simp [hlinks]

/-- What a fault does to the output of a link in RUN (R90): the slot empties, and with hold code 0 the queues too. -/
theorem State.outputAtFault_fits (s : State) (p : LinkId) : ∃ o i,
    (s.outputAtFault p).outs = s.outs.set p.port o ∧ (s.outputAtFault p).linkOuts = s.linkOuts.set p i ∧
      ((s.outs.get p.port).Bounded → o.Bounded) ∧
      ∀ state, (s.linkOuts.get p).Fits (s.outs.get p.port) state → i.Fits o .faulted := by
  obtain ⟨u, hu, heq⟩ := s.outputAtFault_eq p
  have houts : u.outs = s.outs.set p.port { s.outs.get p.port with departing := none } := by rw [hu]; simp
  have hcut : u.linkOuts = s.linkOuts.set p ((s.linkOuts.get p).cut (s.outs.get p.port).departing) := by rw [hu]; simp
  rw [heq]
  split
  · refine ⟨_, { (s.linkOuts.get p).cut (s.outs.get p.port).departing with
        queueState := .closed, holdTimer := .stopped }, ?_, by simp [hcut], fun h => h.emptied none,
      fun state h => LinkOutput.fits_closed LinkState.noConfusion rfl rfl h.cut_stall rfl rfl rfl⟩
    simp [houts]
  · rename_i hcode
    exact ⟨_, { (s.linkOuts.get p).cut (s.outs.get p.port).departing with
        queueState := .held, holdTimer := timerOfCode (s.linkOuts.get p).holdCode }, houts, by simp [hcut],
      fun h => h.slot none, fun state h => LinkOutput.fits_held rfl (timerOfCode_running hcode) h.cut_stall rfl⟩

/-- Entry to FAULTED: the link port first, then, from RUN, the output (R114). -/
theorem State.enterFaulted_eq (s : State) (p : LinkId) (kind : FaultKind) (lost : Option (Option Header)) :
    ∃ u : State, (u.outs = s.outs ∧ u.linkOuts = s.linkOuts ∧ u.win.engine = s.win.engine ∧
        u.win.resetApplied = s.win.resetApplied) ∧
      u.links = s.links.set p { s.links.get p with
        rx := none, state := .faulted, restartRequest := decide (kind = .restartReq), txCredit := 0,
        silenceTimer := .stopped, syncTimer := .stopped, recoveryTimer := .running 100, endCutOwed := false,
        line := none } ∧
      s.enterFaulted p kind lost = if decide ((s.links.get p).state = .run) then u.outputAtFault p else u := by
  refine ⟨_, ?_, ?_, rfl⟩
  · split <;> simp
  · split <;> simp [Config.recoveryUs]

theorem LinkPort.timed_faulted {l : LinkPort} (state : l.state = .faulted) (silence : l.silenceTimer = .stopped)
    (sync : l.syncTimer = .stopped) : l.Timed where
  silence := by simp [state, silence]
  sync := by simp [state, sync]
  recovery _ := state
  restart _ := state

theorem lawsKept_enterFaulted (s : State) (p : LinkId) (kind : FaultKind) (lost : Option (Option Header)) :
    LawsKept s (s.enterFaulted p kind lost) := by
  obtain ⟨u, ⟨houts, hlinkOuts, hengine, happlied⟩, hlinks, heq⟩ := s.enterFaulted_eq p kind lost
  rw [heq]
  by_cases hrun : (s.links.get p).state = .run
  · obtain ⟨o, i, hoo, hoi, hbounded, hfits⟩ := u.outputAtFault_fits p
    rw [houts] at hoo hbounded hfits
    rw [hlinkOuts] at hoi hfits
    rw [decide_eq_true hrun, if_pos rfl]
    exact lawsKept_at hoo hoi ((u.outputAtFault_links p).trans hlinks) (by rw [State.outputAtFault_win, hengine])
      (by rw [State.outputAtFault_win, happlied]) hbounded (hfits _) fun _ => LinkPort.timed_faulted rfl rfl rfl
  · rw [decide_eq_false hrun]
    exact lawsKept_at_link houts hlinkOuts hlinks hengine happlied
      (fun h => h.move hrun LinkState.noConfusion LinkState.noConfusion) fun _ => LinkPort.timed_faulted rfl rfl rfl

theorem lawsKept_fault (s : State) (p : LinkId) (kind : FaultKind) : LawsKept s (s.fault p kind) :=
  lawsKept_enterFaulted ..

/-! ## Links closed and entered -/

/-- A link in a state without timers. -/
theorem LinkPort.timed_stopped {l : LinkPort} (hsync : l.state ≠ .sync) (hrun : l.state ≠ .run)
    (silence : l.silenceTimer = .stopped) (sync : l.syncTimer = .stopped) (recovery : l.recoveryTimer = .stopped)
    (restart : l.restartRequest = false) : l.Timed where
  silence := by simp [silence, hsync, hrun]
  sync := by simp [sync, hsync]
  recovery h := absurd recovery h
  restart h := by rw [restart] at h; cases h

/-- The link port after a DISABLE (R119), with what is left on its pair. -/
def LinkPort.closed (l : LinkPort) (line : Option LinkChar) : LinkPort :=
  { l with
    state := .disabled, restartRequest := false, txCredit := 0, rx := none, silenceTimer := .stopped,
    syncTimer := .stopped, recoveryTimer := .stopped, endCutOwed := false, line := line }

/-- The link's part of a DISABLE comes first, then that of its output (R93, R119). -/
theorem State.closeLink_eq (s : State) (p : LinkId) : ∃ u : State, (u.outs = s.outs ∧ u.linkOuts = s.linkOuts ∧
      u.win.engine = s.win.engine ∧ u.win.resetApplied = s.win.resetApplied) ∧
    u.links = s.links.set p ((s.links.get p).closed
      (if decide ((s.links.get p).state = .run) && ((s.links.get p).endCutOwed || s.departureStarted p) then
        some .endCut else none)) ∧
    s.closeLink p = (((u.dropDeparting p).purge p.port).countLost p.port (s.copiesAt p.port)).setQueueState p
      .closed .stopped := by
  refine ⟨_, ?_, ?_, rfl⟩
  · split <;> simp
  · split <;> simp [LinkPort.closed]

theorem lawsKept_closeLink (s : State) (p : LinkId) : LawsKept s (s.closeLink p) := by
  obtain ⟨u, ⟨houts, hlinkOuts, hengine, happlied⟩, hlinks, heq⟩ := s.closeLink_eq p
  rw [heq]
  exact lawsKept_at (p := p) (o := { s.outs.get p.port with express := [], standard := [], departing := none })
    (i := { (s.linkOuts.get p).cut (s.outs.get p.port).departing with queueState := .closed, holdTimer := .stopped })
    (by simp [houts]) (by simp [houts, hlinkOuts]) (by simpa using hlinks) (by simp [hengine]) (by simp [happlied])
    (fun h => h.emptied none)
    (fun h => LinkOutput.fits_closed LinkState.noConfusion rfl rfl h.cut_stall rfl rfl rfl)
    fun _ => LinkPort.timed_stopped LinkState.noConfusion LinkState.noConfusion rfl rfl rfl rfl

theorem lawsKept_disableLink (s : State) (p : LinkId) : LawsKept s (s.disableLink p) := by
  rcases s.disableLink_cases p with ⟨-, h⟩ | ⟨-, h⟩ <;> rw [h]
  · exact .refl s
  · exact lawsKept_closeLink s p

/-- A link outside RUN enters LISTEN (R101). -/
theorem lawsKept_enterListen {s : State} {p : LinkId} (hrun : (s.links.get p).state ≠ .run) :
    LawsKept s (s.enterListen p) :=
  lawsKept_at_link rfl rfl rfl rfl rfl (fun h => h.move hrun LinkState.noConfusion LinkState.noConfusion) fun _ =>
    LinkPort.timed_stopped LinkState.noConfusion LinkState.noConfusion rfl rfl rfl rfl

/-- Outside FAULTED no recovery runs and no restart request waits (R116). -/
theorem LinkPort.Timed.quiet {l : LinkPort} (h : l.Timed) (hstate : l.state ≠ .faulted) :
    l.recoveryTimer = .stopped ∧ l.restartRequest = false :=
  ⟨by_contra fun hrun => hstate (h.recovery hrun), Bool.eq_false_iff.2 fun hreq => hstate (h.restart hreq)⟩

/-- A link in LISTEN enters SYNC (R103). -/
theorem lawsKept_enterSync {s : State} {p : LinkId} (hs : (s.links.get p).state = .listen) :
    LawsKept s (s.enterSync p) := by
  refine lawsKept_at_link rfl rfl rfl rfl rfl
    (fun h => h.move (hs ▸ LinkState.noConfusion) LinkState.noConfusion LinkState.noConfusion) fun h => ?_
  obtain ⟨hrecovery, hrestart⟩ := h.quiet (by simp [hs])
  exact { silence := by simp
          sync := by simp
          recovery := fun hrun => absurd hrecovery hrun
          restart := fun hreq => by simp [hrestart] at hreq }

/-- A link in SYNC enters RUN, and its output opens (R78, R106). -/
theorem lawsKept_enterRun {s : State} {p : LinkId} (hs : (s.links.get p).state = .sync) (credit : Nat) :
    LawsKept s (s.enterRun p credit) := by
  refine lawsKept_at (p := p) (PerPort.set_get ..).symm rfl rfl rfl rfl id (fun h => ?_) fun h => ?_
  · exact {
      departing := fun _ => rfl
      opened := by simp
      disabled := fun hd => by cases hd
      closed := fun hclosed => by cases hclosed
      hold := by simp
      stall := h.stall }
  · obtain ⟨hrecovery, hrestart⟩ := h.quiet (by simp [hs])
    exact { silence := by simp
            sync := by simp
            recovery := fun hrun => absurd hrecovery hrun
            restart := fun hreq => by simp [hrestart] at hreq }

theorem lawsKept_enableLink (s : State) (p : LinkId) : LawsKept s (s.enableLink p) := by
  unfold State.enableLink
  cases hs : (s.links.get p).state with
  | disabled => exact lawsKept_enterListen (by simp [hs])
  | listen | sync | run => exact .refl s
  | faulted =>
    cases hr : (s.links.get p).recoveryTimer with
    | stopped => exact lawsKept_enterListen (by simp [hs])
    | running us =>
      exact lawsKept_at_link rfl rfl rfl rfl rfl id fun h => { h with restart := fun _ => hs }

theorem lawsKept_restartLink (s : State) (p : LinkId) : LawsKept s (s.restartLink p) := by
  unfold State.restartLink
  cases (s.links.get p).state with
  | disabled | listen => exact .refl s
  | sync | run => exact lawsKept_fault ..
  | faulted => exact lawsKept_enableLink ..

end Sys2Proof.Machine
end

section
/-! LAWS. The output laws and the timer laws under route resolution and the link characters. -/

namespace Sys2Proof.Machine

set_option Elab.async false

/-! ## Route resolution -/

/-- A candidate's queue is not CLOSED, and its class queue has room (R60). -/
theorem State.candidates_open {s : State} {source : Port} {hops : BitVec 4} {cls : Class} {ms cands : List Port}
    (h : s.candidates source hops cls ms = .ok cands) {p : Port} (hp : p ∈ cands) :
    s.queueState p ≠ .closed ∧ ((s.outs.get p).queue cls).length < 32 := by
  rw [State.candidates_eq] at h
  split at h
  · cases h
  split at h
  · cases h
  split at h
  · cases h
  split at h
  · cases h
  cases h
  have hkept := (List.mem_filter.1 hp).2
  rw [Bool.not_eq_true', ← Bool.not_eq_true, Bool.or_eq_true, Bool.or_eq_true, State.closedExcluded_iff,
    State.fullExcluded_iff] at hkept
  exact ⟨fun hc => hkept (Or.inl (Or.inr hc)), Nat.lt_of_not_le fun hf => hkept (Or.inr hf)⟩

/-- A resolution places copies only among the candidates of the frame (R64, R66, R67). -/
theorem State.decideRoute_candidates {s : State} {source : Port} {h : Header} {outputs : List Port}
    {refused : List (Port × Code)} {pointer : Option Port}
    (hd : s.decideRoute source h = .place outputs refused pointer) :
    ∃ cands, s.routeCandidates source h = .ok cands ∧ ∀ p ∈ outputs, p ∈ cands := by
  cases hc : s.routeCandidates source h with
  | error cause =>
    by_cases hk : (s.entry h.dest).kind = .invalid
    · rw [State.decideRoute_invalid hk] at hd
      cases hd
    · rw [State.decideRoute_error hk hc] at hd
      cases hd
  | ok cands =>
    refine ⟨cands, rfl, fun p hp => ?_⟩
    cases hk : (s.entry h.dest).kind with
    | invalid => rw [State.decideRoute_invalid hk] at hd; cases hd
    | single => rw [State.decideRoute_single hk hc] at hd; cases hd; exact hp
    | fanout => rw [State.decideRoute_fanout hk hc] at hd; cases hd; exact hp
    | spread =>
      cases hchoice : s.spreadChoice (s.pointer h.dest) cands with
      | some q =>
        rw [State.decideRoute_spread hk hc hchoice] at hd
        cases hd
        rw [List.mem_singleton.1 hp]
        exact State.spreadChoice_mem hchoice
      | none =>
        unfold State.routeCandidates at hc
        simp only [State.decideRoute, hk, hc, hchoice] at hd
        cases hd

@[simp] theorem State.placeCopies_linkOuts (s : State) (d : DescId) (cls : Class) (ps : List Port) :
    (s.placeCopies d cls ps).linkOuts = s.linkOuts :=
  (congrArg State.linkOuts (s.placeCopies_frame d cls ps)).trans rfl

@[simp] theorem State.reportAllRefused_linkOuts (s : State) (source : Port) (h : Header) (ms : List (Port × Code)) :
    (s.reportAllRefused source h ms).linkOuts = s.linkOuts :=
  (congrArg State.linkOuts (s.reportAllRefused_frame source h ms)).trans rfl

theorem State.placeCopies_outs (s : State) (d : DescId) (cls : Class) (ps : List Port) :
    (s.placeCopies d cls ps).outs = appendCopies s.outs d cls ps := by
  induction ps generalizing s with
  | nil => rfl
  | cons p rest ih =>
    have hone : (s.placeCopy d cls p).outs = s.outs.set p ((s.outs.get p).append d cls) := by
      rw [State.placeCopy_eq]
      cases s.desc d <;> rfl
    rw [State.placeCopies, ih, hone, appendCopies]

@[simp] theorem State.resolve_linkOuts (s : State) (d : DescId) (o : Port) (h : Header) :
    (s.resolve d o h).2.linkOuts = s.linkOuts := by
  unfold State.resolve
  cases s.decideRoute o h with
  | discard cause =>
    simp only
    split <;> simp
  | place outputs refused pointer => cases pointer <;> simp

/-- What a resolution does to the outputs: nothing, or a copy appended at each output, once, that is not CLOSED and has
room in the class queue. -/
theorem State.resolve_outs (s : State) (d : DescId) (o : Port) (h : Header) :
    (s.resolve d o h).2.outs = s.outs ∨ ∃ cls outputs, outputs.Nodup ∧
      (∀ p ∈ outputs, s.queueState p ≠ .closed ∧ ((s.outs.get p).queue cls).length < 32) ∧
      (s.resolve d o h).2.outs = appendCopies s.outs d cls outputs := by
  unfold State.resolve
  cases hd : s.decideRoute o h with
  | discard cause =>
    simp only
    split <;> exact Or.inl (by simp)
  | place outputs refused pointer =>
    obtain ⟨-, hnodup, -⟩ := State.decideRoute_place hd
    obtain ⟨cands, hc, hmem⟩ := State.decideRoute_candidates hd
    refine Or.inr ⟨copyClass (s.entry h.dest).rule h.cls, outputs, hnodup,
      fun p hp => State.candidates_open hc (hmem p hp), ?_⟩
    cases pointer <;> simp [State.placeCopies_outs]

@[simp] theorem Output.append_departing (o : Output) (d : DescId) (cls : Class) :
    (o.append d cls).departing = o.departing := by
  cases cls <;> rfl

theorem State.queueState_port (s : State) (p : LinkId) : s.queueState p.port = (s.linkOuts.get p).queueState := by
  rw [State.queueState, LinkId.link_port]

/-- Copies join queues that are not CLOSED and have room for them (Law 5, R77). -/
theorem lawsKept_appendCopies {s t : State} {d : DescId} {cls : Class} {ps : List Port} (hps : ps.Nodup)
    (room : ∀ p ∈ ps, s.queueState p ≠ .closed ∧ ((s.outs.get p).queue cls).length < 32)
    (outs : t.outs = appendCopies s.outs d cls ps) (linkOuts : t.linkOuts = s.linkOuts) (links : t.links = s.links)
    (win : t.win = s.win) : LawsKept s t where
  outputs h := by
    obtain ⟨hb, hf, hw⟩ := outputLaws_iff.1 h
    refine outputLaws_iff.2 ⟨fun p => ?_, fun p => ?_, ?_⟩
    · rw [outs, appendCopies_get hps]
      split
      · rename_i hp
        exact (hb p).append d (room p hp).2
      · exact hb p
    · rw [outs, appendCopies_get hps, linkOuts, links]
      split
      · rename_i hp
        have hopen := (room p.port hp).1
        rw [State.queueState_port] at hopen
        have hfits := hf p
        exact { hfits with
          departing := by rw [Output.append_departing]; exact hfits.departing
          closed := fun hc => absurd hc hopen
          stall := by rw [Output.append_departing]; exact hfits.stall }
      · exact hf p
    · have hslot : (t.outs.get .p0).departing = (s.outs.get .p0).departing := by
        rw [outs, appendCopies_get hps]
        split <;> simp
      rw [hslot, win]
      exact hw
  timers h := by
    rw [timerLaws_iff, links]
    exact timerLaws_iff.1 h

theorem lawsKept_resolve (s : State) (d : DescId) (o : Port) (h : Header) : LawsKept s (s.resolve d o h).2 := by
  obtain ⟨⟨hlinks, hwin⟩, -⟩ := s.resolve_cases d o h
  rcases s.resolve_outs d o h with houts | ⟨cls, outputs, hnodup, hroom, houts⟩
  · exact lawsKept_of_same houts (by simp) (fun p => by rw [hlinks]) (by rw [hwin]) (by rw [hwin])
  · exact lawsKept_appendCopies hnodup hroom houts (by simp) hlinks hwin

/-! ## The frame in progress -/

/-- The link port is written, and neither its state nor a timer of it. -/
theorem lawsKept_setLink {s t : State} {p : LinkId} {l : LinkPort} (outs : t.outs = s.outs)
    (linkOuts : t.linkOuts = s.linkOuts) (links : t.links = s.links.set p l)
    (clocks : l.clocks = (s.links.get p).clocks) (win : t.win = s.win) : LawsKept s t :=
  lawsKept_of_same outs linkOuts (clocks_setLink links clocks) (by rw [win]) (by rw [win])

theorem lawsKept_setRx (s : State) (p : LinkId) (f : Option RxFrame) : LawsKept s (s.setRx p f) :=
  lawsKept_setLink rfl rfl rfl rfl rfl

theorem lawsKept_restartSilence {s : State} {p : LinkId}
    (hs : (s.links.get p).state = .sync ∨ (s.links.get p).state = .run) : LawsKept s (s.restartSilence p) :=
  lawsKept_at_link rfl rfl rfl rfl rfl id fun h => { h with silence := by simpa using hs }

/-- Cells, descriptors, counters and records take no part in the laws. -/
theorem lawsKept_storeByte (s : State) (f : RxFrame) (b : Byte) : LawsKept s (s.storeByte f b) := by
  rw [s.storeByte_frame f b]
  exact lawsKept_of_same rfl rfl (fun _ => rfl) rfl rfl

theorem lawsKept_giveHeader (s : State) (f : RxFrame) (h : Header) : LawsKept s (s.giveHeader f h) := by
  rw [s.giveHeader_frame f h]
  exact lawsKept_of_same rfl rfl (fun _ => rfl) rfl rfl

theorem lawsKept_freeDesc (s : State) (d : DescId) : LawsKept s (s.freeDesc d) :=
  lawsKept_of_same (by simp) (by simp) (fun _ => by simp) (by simp) (by simp)

theorem lawsKept_discardAtReception (s : State) (p : LinkId) (f : RxFrame) (cause : Code) :
    LawsKept s (s.discardAtReception p f cause) := by
  have hdrop : LawsKept s (s.dropFrame f) := by
    unfold State.dropFrame
    cases f.disposition with
    | storing d => exact lawsKept_freeDesc s d
    | sinkingNoDescriptor | sinkingSurplus => exact .refl s
  rw [State.discardAtReception_eq]
  exact hdrop.trans (lawsKept_of_same rfl rfl (fun _ => rfl) rfl rfl)

/-- DATA at position 0: a fault, or a cell moved and the frame begun. -/
theorem lawsKept_startFrame (s : State) (p : LinkId) (b : Byte) : LawsKept s (s.startFrame p b) := by
  rcases s.takeReserveCell_cases p with hnone | ⟨o, c, rest, ho, hr, -⟩
  · rw [State.startFrame_refused hnone]
    exact lawsKept_enterFaulted ..
  cases hfree : s.lowestFree with
  | none =>
    rw [State.startFrame_sinks ho hr hfree]
    exact lawsKept_setLink rfl rfl rfl rfl rfl
  | some d =>
    rw [State.startFrame_claims ho hr hfree, State.writeFrameByte_frame]
    exact lawsKept_setLink rfl rfl rfl rfl rfl

theorem lawsKept_headerData (s : State) (p : LinkId) (f : RxFrame) (b : Byte) : LawsKept s (s.headerData p f b) := by
  by_cases h3 : f.position < 3
  · rw [State.headerData_early _ _ _ _ h3]
    exact (lawsKept_storeByte ..).trans (lawsKept_setRx ..)
  · rw [State.headerData_late _ _ _ _ h3]
    simp only
    split
    · exact lawsKept_enterFaulted ..
    · exact ((lawsKept_giveHeader ..).trans (lawsKept_storeByte ..)).trans (lawsKept_setRx ..)

/-- DATA below the stored size: a byte stored, or a group start with its cell joined, sunk or refused. -/
theorem lawsKept_bodyData (s : State) (p : LinkId) {f : RxFrame} (hsurplus : f.disposition ≠ .sinkingSurplus)
    {h : Header} (hlt : f.position < h.size) (b : Byte) : LawsKept s (s.bodyData p f h b) := by
  by_cases hg : f.position % 64 = 0
  case neg =>
    rw [State.bodyData_within _ _ _ _ _ hg]
    exact (lawsKept_storeByte ..).trans (lawsKept_setRx ..)
  rcases s.takeReserveCell_cases p with hnone | ⟨o, c, rest, ho, hr, -⟩
  · have hfault : s.bodyData p f h b = s.fault p .rxOverrun := by
      simp only [State.bodyData, isGroupStart_of_mod hg hlt, hnone, if_true]
    rw [hfault]
    exact lawsKept_fault ..
  cases hd : f.disposition with
  | sinkingSurplus => exact absurd hd hsurplus
  | sinkingNoDescriptor =>
    rw [s.bodyData_sinks p f h b hg hlt ho hr hd]
    exact lawsKept_setLink rfl rfl rfl rfl rfl
  | storing d =>
    cases hx : s.desc d with
    | none =>
      rw [s.bodyData_orphan p f h b hg hlt ho hr hd hx, State.storeByte_frame]
      exact lawsKept_setLink rfl rfl rfl rfl rfl
    | some x =>
      rw [s.bodyData_joins p f h b hg hlt ho hr hd hx, State.writeFrameByte_frame]
      exact lawsKept_setLink rfl rfl rfl rfl rfl

theorem lawsKept_knownData (s : State) (p : LinkId) {f : RxFrame} (hsurplus : f.disposition ≠ .sinkingSurplus)
    (h : Header) (b : Byte) : LawsKept s (s.knownData p f h b) := by
  rcases lt_or_ge f.position h.size with hlt | hge
  · rw [State.knownData_body _ _ _ _ _ hlt]
    exact lawsKept_bodyData s p hsurplus hlt b
  by_cases h0 : f.position = h.size
  · rw [State.knownData_checkHigh _ _ _ _ _ h0]
    exact lawsKept_setRx ..
  by_cases h1 : f.position = h.size + 1
  · rw [State.knownData_checkLow _ _ _ _ _ h1]
    exact lawsKept_setRx ..
  · rw [State.knownData_surplus _ _ _ _ _ (by omega)]
    exact (lawsKept_discardAtReception ..).trans (lawsKept_setRx ..)

theorem lawsKept_dataInRun (s : State) (p : LinkId) (b : Byte) : LawsKept s (s.dataInRun p b) := by
  unfold State.dataInRun
  cases (s.links.get p).rx with
  | none => exact lawsKept_startFrame ..
  | some f =>
    cases hd : f.disposition with
    | sinkingSurplus => simp only [hd]; exact .refl s
    | storing d | sinkingNoDescriptor =>
      cases hh : f.header with
      | none => simp only [hd, hh]; exact lawsKept_headerData ..
      | some h => simp only [hd, hh]; exact lawsKept_knownData s p (by simp [hd]) h b

theorem lawsKept_endGoodInFrame (s : State) (p : LinkId) (f : RxFrame) : LawsKept s (s.endGoodInFrame p f) := by
  have hdiscard (cause : Code) : LawsKept s ((s.setRx p none).discardAtReception p f cause) :=
    (lawsKept_setRx ..).trans (lawsKept_discardAtReception ..)
  cases hd : f.disposition with
  | sinkingSurplus => simp only [State.endGoodInFrame, hd]; exact lawsKept_setRx ..
  | sinkingNoDescriptor => simp only [State.endGoodInFrame, hd]; exact hdiscard _
  | storing d =>
    cases hh : f.header with
    | none => rw [State.endGoodInFrame_headerless _ _ _ hd hh]; exact hdiscard _
    | some h =>
      rw [State.endGoodInFrame_known _ _ _ hd hh]
      split
      · exact hdiscard _
      split
      · exact hdiscard _
      · exact (lawsKept_setRx ..).trans (lawsKept_resolve ..)

theorem lawsKept_endCutInFrame (s : State) (p : LinkId) (f : RxFrame) : LawsKept s (s.endCutInFrame p f) := by
  unfold State.endCutInFrame
  cases f.disposition with
  | sinkingSurplus => exact lawsKept_setRx ..
  | sinkingNoDescriptor | storing d => exact (lawsKept_setRx ..).trans (lawsKept_discardAtReception ..)

/-! ## The characters -/

theorem lawsKept_dataReceived {s t : State} {p : LinkId} {b : Byte} (h : exec (.dataReceived p b) s = .next t) :
    LawsKept s t := by
  cases h
  cases hs : (s.links.get p).state with
  | disabled | listen | faulted => exact .refl s
  | sync => exact lawsKept_fault ..
  | run => exact (lawsKept_restartSilence (Or.inr hs)).trans (lawsKept_dataInRun ..)

theorem lawsKept_endGoodReceived {s t : State} {p : LinkId} (h : exec (.endGoodReceived p) s = .next t) :
    LawsKept s t := by
  cases h
  cases hs : (s.links.get p).state with
  | disabled | listen | faulted => exact .refl s
  | sync => exact lawsKept_fault ..
  | run =>
    cases (s.links.get p).rx with
    | none => exact lawsKept_fault ..
    | some f => exact (lawsKept_restartSilence (Or.inr hs)).trans (lawsKept_endGoodInFrame ..)

theorem lawsKept_endCutReceived {s t : State} {p : LinkId} (h : exec (.endCutReceived p) s = .next t) :
    LawsKept s t := by
  cases h
  cases hs : (s.links.get p).state with
  | disabled | listen | faulted => exact .refl s
  | sync => exact lawsKept_fault ..
  | run =>
    cases (s.links.get p).rx with
    | none => exact lawsKept_fault ..
    | some f => exact (lawsKept_restartSilence (Or.inr hs)).trans (lawsKept_endCutInFrame ..)

theorem lawsKept_codeError (s : State) (p : LinkId) : LawsKept s (s.codeError p) := by
  unfold State.codeError
  cases (s.links.get p).state with
  | disabled | listen | faulted => exact .refl s
  | sync | run => exact lawsKept_fault ..

/-- Credit ends the wait of a departure and stops its stall timer (R86). -/
theorem lawsKept_endWait (s : State) (p : LinkId) : LawsKept s (s.endWait p) := by
  unfold State.endWait
  cases hdep : (s.outs.get p.port).departing with
  | none => exact .refl s
  | some dep =>
    simp only
    split
    · exact lawsKept_at_output rfl rfl rfl rfl rfl (fun h => h.slot _) fun h => { h with
        departing := fun _ => h.departing (by simp [hdep])
        stall := fun hrun => absurd rfl hrun }
    · exact .refl s

theorem lawsKept_creditInRun (s : State) (p : LinkId) (n : Nat) : LawsKept s (s.creditInRun p n) := by
  unfold State.creditInRun
  split
  · refine LawsKept.trans ?_ (lawsKept_endWait _ p)
    exact lawsKept_setLink rfl rfl rfl rfl rfl
  · exact lawsKept_fault ..

theorem lawsKept_creditReceived {s t : State} {p : LinkId} {n : Nat} (h : exec (.creditReceived p n) s = .next t) :
    LawsKept s t := by
  cases h
  split
  · cases hs : (s.links.get p).state with
    | disabled | listen | faulted => exact .refl s
    | sync => exact lawsKept_enterRun hs n
    | run => exact (lawsKept_restartSilence (Or.inr hs)).trans (lawsKept_creditInRun ..)
  · exact lawsKept_codeError s p

theorem lawsKept_idleReceived {s t : State} {p : LinkId} (h : exec (.idleReceived p) s = .next t) :
    LawsKept s t := by
  cases h
  cases hs : (s.links.get p).state with
  | disabled | listen | faulted => exact .refl s
  | sync => exact lawsKept_enterRun hs _
  | run => exact lawsKept_restartSilence (Or.inr hs)

theorem lawsKept_helloReceived {s t : State} {p : LinkId} (h : exec (.helloReceived p) s = .next t) :
    LawsKept s t := by
  cases h
  cases hs : (s.links.get p).state with
  | disabled | faulted => exact .refl s
  | listen => exact lawsKept_enterSync hs
  | sync => exact lawsKept_restartSilence (Or.inl hs)
  | run => exact lawsKept_fault ..

end Sys2Proof.Machine
end

section
/-! PROOFS. The output laws and the timer laws under the timers, the transmitters and the host window, and under every
step. -/

namespace Sys2Proof.Machine

set_option Elab.async false

/-! ## Timers -/

theorem lawsKept_silenceTimerExpiry {s t : State} {p : LinkId} (h : exec (.silenceTimerExpiry p) s = .next t) :
    LawsKept s t := by
  cases h
  split
  · cases (s.links.get p).state with
    | disabled | listen | faulted => exact .refl s
    | sync | run => exact lawsKept_fault ..
  · exact .refl s

theorem lawsKept_syncTimerExpiry {s t : State} {p : LinkId} (h : exec (.syncTimerExpiry p) s = .next t) :
    LawsKept s t := by
  cases h
  split
  · cases (s.links.get p).state with
    | disabled | listen | run | faulted => exact .refl s
    | sync => exact lawsKept_fault ..
  · exact .refl s

theorem lawsKept_recoveryTimerExpiry {s t : State} {p : LinkId} (h : exec (.recoveryTimerExpiry p) s = .next t) :
    LawsKept s t := by
  cases h
  split
  · cases hs : (s.links.get p).state with
    | disabled | listen | sync | run => exact .refl s
    | faulted =>
      simp only
      split
      · exact lawsKept_enterListen (by simp [hs])
      · exact lawsKept_at_link rfl rfl rfl rfl rfl id fun h => { h with recovery := fun hrun => absurd rfl hrun }
  · exact .refl s

/-- An END_CUT owed takes no part in the laws. -/
theorem lawsKept_oweEndCut (s : State) (p : LinkId) (owed : Bool) :
    LawsKept s (s.modLink p fun l => { l with endCutOwed := owed }) :=
  lawsKept_setLink rfl rfl rfl rfl rfl

theorem lawsKept_stallTimerExpiry {s t : State} {p : LinkId} (h : exec (.stallTimerExpiry p) s = .next t) :
    LawsKept s t := by
  cases h
  split
  · cases (s.outs.get p.port).departing with
    | none => exact .refl s
    | some dep =>
      exact (((lawsKept_oweEndCut ..).trans (lawsKept_dropDeparting ..)).trans (lawsKept_countLost ..)).trans
        (lawsKept_record ..)
  · exact .refl s

theorem Timer.isRunning_iff {t : Timer} : t.isRunning = true ↔ t ≠ .stopped := by
  cases t <;> simp [Timer.isRunning]

/-- A running hold timer means a HELD queue, so the link is not in RUN and nothing departs: the output closes empty
(R91). -/
theorem lawsKept_holdTimerExpiry {s t : State} {p : LinkId} (h : exec (.holdTimerExpiry p) s = .next t) :
    LawsKept s t := by
  cases h
  split
  · rename_i hrunning
    refine lawsKept_at_output (p := p) (o := { s.outs.get p.port with express := [], standard := [] })
      (i := { s.linkOuts.get p with queueState := .closed, holdTimer := .stopped }) (by simp) (by simp) (by simp)
      (by simp) (by simp) (fun h => h.emptied _) fun h => ?_
    have hheld := h.hold.1 (Timer.isRunning_iff.1 hrunning)
    have hrun : (s.links.get p).state ≠ .run := fun hrun => by
      rw [h.opened.2 hrun] at hheld
      cases hheld
    have hslot := h.slot_empty hrun
    exact LinkOutput.fits_closed hrun rfl rfl (h.stall_stopped hslot) hslot rfl rfl
  · exact .refl s

/-! ## Refill, selection, transmission -/

theorem lawsKept_refill {s t : State} (h : exec .refill s = .next t) : LawsKept s t := by
  cases h
  cases (refillOrder s.pool.refillPointer).find? fun p => s.refillable p with
  | none => exact .refl s
  | some p =>
    simp only [State.refillLink]
    cases s.pool.freeList with
    | nil => exact .refl s
    | cons c rest => exact lawsKept_of_same rfl rfl (fun _ => rfl) rfl rfl

/-- The link items of an output whose departure comes to a position, with or without a wait for credit (R85, R86). -/
def LinkOutput.arrived (i : LinkOutput) (wait : Bool) : LinkOutput :=
  { i with stallTimer := if wait then timerOfCode i.stallCode else .stopped }

/-- A copy in the slot of an OPEN output runs the stall timer only when it waits. -/
theorem LinkOutput.Fits.arrive {i : LinkOutput} {o u : Output} (h : i.Fits o .run) {d : DescId} {cls : Class} {k : Nat}
    {wait : Bool} (slot : u.departing = some ⟨d, cls, k, wait⟩) : (i.arrived wait).Fits u .run where
  departing _ := rfl
  opened := h.opened
  disabled hd := by cases hd
  closed hc := by
    have hopen := h.opened.2 rfl
    rw [show i.queueState = .closed from hc] at hopen
    cases hopen
  hold := h.hold
  stall hrun := by
    refine ⟨_, slot, ?_⟩
    by_contra hwait
    exact hrun (if_neg hwait)

/-- The departure of a link in RUN comes to a position (R85, R86). -/
theorem lawsKept_arrive {s : State} {p : LinkId} (hs : (s.links.get p).state = .run) (dep : Departure) (size : Nat) :
    LawsKept s (s.arrive p dep size) :=
  lawsKept_at_output rfl rfl rfl rfl rfl (fun h => h.slot _) fun h => by
    rw [hs] at h ⊢
    exact h.arrive rfl

@[simp] theorem State.markDeparting_linkOuts (s : State) (p : Port) (d : DescId) :
    (s.markDeparting p d).linkOuts = s.linkOuts :=
  (congrArg State.linkOuts (s.markDeparting_frame p d)).trans rfl

theorem State.beginDeparture_linkOuts (s : State) (p : LinkId) (d : DescId) (cls : Class) (o : Output) :
    (s.beginDeparture p d cls o).linkOuts = s.linkOuts.set p ((s.linkOuts.get p).arrived
      (isGroupStart 0 (s.headerOf d).size && decide ((s.links.get p).txCredit = 0))) := by
  simp [State.beginDeparture, State.arrive, LinkOutput.arrived]

/-- A copy selected leaves its queue for the slot of an OPEN output (R81). -/
theorem lawsKept_selection {s t : State} {p : LinkId} (h : exec (.selection p) s = .next t) : LawsKept s t := by
  cases h
  split
  · rename_i hready
    cases ht : (s.outs.get p.port).takeNext with
    | none => exact .refl s
    | some next =>
      obtain ⟨d, cls, o⟩ := next
      refine lawsKept_at_output (s.beginDeparture_outs p d cls o) (s.beginDeparture_linkOuts p d cls o)
        (by simp [State.beginDeparture, State.arrive]) (by simp [State.beginDeparture, State.arrive])
        (by simp [State.beginDeparture, State.arrive]) (fun h => (h.takeNext ht).slot _) fun h => ?_
      have hrun := h.opened.1 hready.1
      rw [hrun] at h ⊢
      exact h.arrive rfl
  · exact .refl s

theorem lawsKept_putLine (s : State) (p : LinkId) (c : Option LinkChar) : LawsKept s (s.putLine p c) :=
  lawsKept_setLink rfl rfl rfl rfl rfl

theorem lawsKept_sendCredit (s : State) (p : LinkId) : LawsKept s (s.sendCredit p) :=
  lawsKept_setLink rfl rfl rfl rfl rfl

theorem lawsKept_sendCreditOrIdle (s : State) (p : LinkId) : LawsKept s (s.sendCreditOrIdle p) := by
  unfold State.sendCreditOrIdle
  split
  · exact lawsKept_putLine ..
  · exact lawsKept_sendCredit ..

theorem lawsKept_sendDeparture {s : State} {p : LinkId} (hs : (s.links.get p).state = .run) (dep : Departure) :
    LawsKept s (s.sendDeparture p dep) := by
  unfold State.sendDeparture
  simp only
  split
  · exact ((lawsKept_putLine ..).trans (lawsKept_dropDeparting ..)).trans (lawsKept_countDelivered ..)
  · exact (lawsKept_putLine ..).trans (lawsKept_arrive (by simpa using hs) ..)

theorem lawsKept_transmitInRun {s : State} {p : LinkId} (hs : (s.links.get p).state = .run) :
    LawsKept s (s.transmitInRun p) := by
  unfold State.transmitInRun
  split
  · exact (lawsKept_oweEndCut ..).trans (lawsKept_putLine ..)
  cases (s.outs.get p.port).departing with
  | none => exact lawsKept_sendCreditOrIdle ..
  | some dep =>
    simp only
    split
    · split
      · exact lawsKept_sendCredit ..
      split
      · refine LawsKept.trans ?_ (lawsKept_sendDeparture (by simpa using hs) dep)
        exact lawsKept_setLink rfl rfl rfl rfl rfl
      · exact lawsKept_putLine ..
    · exact lawsKept_sendDeparture hs dep

theorem lawsKept_transmitInSync (s : State) (p : LinkId) : LawsKept s (s.transmitInSync p) := by
  unfold State.transmitInSync
  cases (s.links.get p).syncStep with
  | hello | idle =>
    refine LawsKept.trans ?_ (lawsKept_putLine ..)
    exact lawsKept_setLink rfl rfl rfl rfl rfl
  | stream => exact lawsKept_sendCreditOrIdle ..

theorem lawsKept_transmitCharacter {s t : State} {p : LinkId} (h : exec (.transmitCharacter p) s = .next t) :
    LawsKept s t := by
  cases h
  cases hs : (s.links.get p).state with
  | disabled | faulted | listen => exact lawsKept_putLine ..
  | sync => exact lawsKept_transmitInSync ..
  | run => exact lawsKept_transmitInRun hs

/-! ## The window -/

/-- The window changes outside the engine and the applied reset. -/
theorem lawsKept_modWin {s : State} {f : Window → Window} (engine : (f s.win).engine = s.win.engine)
    (applied : (f s.win).resetApplied = s.win.resetApplied) : LawsKept s (s.modWin f) :=
  lawsKept_of_same rfl rfl (fun _ => rfl) engine applied

/-- Neither initialising nor in READ_PHASE: no hard reset is applied, and nothing departs at port 0. -/
def Engine.Works (e : Engine) : Prop := e ≠ .initialising ∧ ∀ cursor, e ≠ .readPhase cursor

/-- The engine goes from one state to another, both outside READ_PHASE, with no hard reset applied. -/
theorem lawsKept_of_engine {s t : State} (outs : t.outs = s.outs) (linkOuts : t.linkOuts = s.linkOuts)
    (links : t.links = s.links) (applied : t.win.resetApplied = s.win.resetApplied) (old : s.win.engine.Works)
    (new : ∀ cursor, t.win.engine ≠ .readPhase cursor) : LawsKept s t :=
  lawsKept_of_window outs linkOuts links fun h => by
    have hoff : t.win.resetApplied = false := by
      rw [applied]
      exact Bool.eq_false_iff.2 fun hon => old.1 (h.applied hon)
    rw [h.slot_empty old.2]
    exact Window.hostFits_empty hoff new

theorem Engine.works_idle : Engine.idle.Works := ⟨Engine.noConfusion, fun _ => Engine.noConfusion⟩

theorem lawsKept_endCommand {s : State} (h : s.win.engine.Works) (code : Code) (r : Words4) :
    LawsKept s (s.endCommand code r) :=
  lawsKept_of_engine rfl rfl rfl rfl h fun _ => Engine.noConfusion

theorem lawsKept_resolution {s t : State} (h : exec .resolution s = .next t) : LawsKept s t := by
  cases h
  cases he : s.win.engine with
  | initialising | idle | executingClear | writePhase | readPhase => exact .refl s
  | executingSend d =>
    have hworks : (s.resolve d .p0 (s.headerOf d)).2.win.engine.Works := by
      rw [(s.resolve_cases d .p0 (s.headerOf d)).1.2, he]
      exact ⟨Engine.noConfusion, fun _ => Engine.noConfusion⟩
    have hend (code : Code) (r : Words4) :
        LawsKept s ((s.resolve d .p0 (s.headerOf d)).2.endCommand code r) :=
      (lawsKept_resolve ..).trans (lawsKept_endCommand hworks ..)
    simp only
    cases hres : s.resolve d .p0 (s.headerOf d) with
    | mk decision u =>
      rw [hres] at hend
      cases decision with
      | discard cause => exact hend ..
      | place outputs refused pointer => exact hend ..

theorem lawsKept_initialisationEnd {s t : State} (h : exec .initialisationEnd s = .next t) : LawsKept s t := by
  cases h
  split
  · exact .refl s
  rename_i hoff
  cases he : s.win.engine with
  | initialising =>
    refine lawsKept_of_window rfl rfl rfl fun h => ?_
    rw [h.slot_empty fun cursor hread => by rw [he] at hread; cases hread]
    exact Window.hostFits_empty (Bool.eq_false_iff.2 hoff) fun _ => Engine.noConfusion
  | idle | executingSend | executingClear | writePhase | readPhase => exact .refl s

theorem lawsKept_clearSwitchEnd {s t : State} (h : exec .clearSwitchEnd s = .next t) : LawsKept s t := by
  cases h
  cases he : s.win.engine with
  | executingClear n =>
    exact lawsKept_endCommand (by rw [he]; exact ⟨Engine.noConfusion, fun _ => Engine.noConfusion⟩) ..
  | initialising | idle | executingSend | writePhase | readPhase => exact .refl s

theorem lawsKept_hardReset {s t : State} (h : exec .hardReset s = .next t) : LawsKept s t := by
  have ht : s.hardResetValues.modWin (fun w => { w with resetApplied := true }) = t := by
    injection h
  rw [← ht]
  exact ⟨fun _ => { outputLaws_reset with applied := fun _ => rfl }, fun _ => { timerLaws_reset with }⟩

/-- A soft reset keeps the yield count of every output (R138). -/
theorem State.softResetValues_out (s : State) (p : Port) :
    s.softResetValues.outs.get p = { Output.reset with yieldCount := (s.outs.get p).yieldCount } := by
  cases p <;> rfl

theorem State.softResetValues_linkOut (s : State) (p : LinkId) :
    s.softResetValues.linkOuts.get p =
      { s.linkOuts.get p with queueState := .closed, holdTimer := .stopped, stallTimer := .stopped } := by
  cases p <;> rfl

theorem lawsKept_softReset (s : State) : LawsKept s s.softResetValues where
  outputs h := by
    refine outputLaws_iff.2 ⟨fun p => ?_, fun p => ?_, ?_⟩
    · rw [State.softResetValues_out]
      exact ⟨Nat.zero_le _, Nat.zero_le _, Nat.zero_le _, (h.yieldRun p).2⟩
    · have hlink : s.softResetValues.links.get p = LinkPort.reset := reset_link p
      rw [State.softResetValues_out, State.softResetValues_linkOut, hlink]
      exact LinkOutput.fits_closed LinkState.noConfusion rfl rfl rfl rfl rfl rfl
    · exact Window.hostFits_empty rfl fun _ => Engine.noConfusion
  timers _ := timerLaws_iff.2 fun p => timerLaws_iff.1 timerLaws_reset p

theorem lawsKept_controlWrite (s : State) (word : Word) : LawsKept s (s.controlWrite word) := by
  unfold State.controlWrite
  split
  · exact .refl s
  split
  · exact lawsKept_softReset s
  · exact lawsKept_modWin rfl rfl

theorem lawsKept_irqCauseWrite {s t : State} {word : Word} (h : exec (.irqCauseWrite word) s = .next t) :
    LawsKept s t := by
  cases h
  split
  · exact .refl s
  · exact lawsKept_modWin rfl rfl

theorem lawsKept_registerWrite {s t : State} {reg : PlainReg} {word : Word}
    (h : exec (.registerWrite reg word) s = .next t) : LawsKept s t := by
  cases h
  split
  · exact .refl s
  cases reg with
  | param0 | param1 | param2 | param3 | irqEnable => exact lawsKept_modWin rfl rfl
  | error | result0 | result1 | result2 | result3 | linkState | id => exact .refl s

/-- While a hard reset is applied the engine is INITIALISING, so nothing departs at port 0 at its release (R140). -/
theorem lawsKept_resetRelease {s t : State} (h : exec .resetRelease s = .next t) : LawsKept s t := by
  cases h
  split
  · rename_i happlied
    refine lawsKept_of_window rfl rfl rfl fun h => ?_
    rw [h.slot_empty fun cursor hread => by rw [h.applied happlied] at hread; cases hread]
    exact Window.hostFits_empty rfl fun _ => Engine.noConfusion
  · exact .refl s

theorem lawsKept_dataWrite {s t : State} {word : Word} (h : exec (.dataWrite word) s = .next t) : LawsKept s t := by
  cases h
  split
  · exact .refl s
  cases he : s.win.engine with
  | initialising | idle | executingSend | executingClear | readPhase => exact .refl s
  | writePhase d cursor =>
    have hgoes {e : Engine} (hnew : ∀ k, e ≠ .readPhase k) :
        LawsKept s ((s.storePayload d cursor word).setEngine e) := by
      rw [s.storePayload_frame d cursor word]
      exact lawsKept_of_engine rfl rfl rfl rfl (by rw [he]; exact ⟨Engine.noConfusion, fun _ => Engine.noConfusion⟩)
        hnew
    simp only
    split
    · exact hgoes fun _ => Engine.noConfusion
    · exact hgoes fun _ => Engine.noConfusion

/-- The slot of port 0 empties as the engine leaves READ_PHASE (R95, R96). -/
theorem lawsKept_leaveReadPhase {s t : State} (outs : t.outs = s.outs.set .p0 { s.outs.p0 with departing := none })
    (linkOuts : t.linkOuts = s.linkOuts) (links : t.links = s.links) (applied : t.win.resetApplied = false)
    (engine : ∀ cursor, t.win.engine ≠ .readPhase cursor) : LawsKept s t :=
  lawsKept_at_host outs linkOuts links (fun h => h.slot none) fun _ => Window.hostFits_empty applied engine

theorem lawsKept_dataRead {s t : State} (h : exec .dataRead s = .next t) : LawsKept s t := by
  have hbus : LawsKept s (s.modWin fun w => { w with dataBus := s.readRegister 13#4 }) := lawsKept_modWin rfl rfl
  cases h
  simp only
  split
  · exact hbus
  rename_i hoff
  cases he : s.win.engine with
  | initialising | idle | executingSend | executingClear | writePhase => exact hbus
  | readPhase cursor =>
    cases s.outs.p0.departing with
    | none => exact hbus
    | some dep =>
      simp only
      split
      · exact lawsKept_leaveReadPhase (by simp [State.dropHostCopy, PerPort.get]) (by simp [State.dropHostCopy])
          (by simp [State.dropHostCopy]) (by simpa [State.dropHostCopy] using hoff) fun _ => Engine.noConfusion
      · refine lawsKept_of_window rfl rfl rfl fun h => ⟨fun hon => absurd hon hoff, ?_⟩
        exact ⟨fun _ => ⟨_, rfl⟩, fun _ => h.slot.2 ⟨cursor, he⟩⟩

/-! ## Host commands -/

/-- A command is taken only in IDLE with no hard reset applied (R128, R140). -/
theorem lawsKept_commandWrite {s : State} {run : State → State} (hrun : ∀ u, HostReady u → LawsKept u (run u)) :
    LawsKept s (s.commandWrite run) := by
  rcases s.commandWrite_cases run with ⟨-, h⟩ | ⟨hready, h⟩ | ⟨-, -, h⟩ <;> rw [h]
  · exact .refl s
  · have htake : LawsKept s s.take := lawsKept_modWin rfl rfl
    exact htake.trans (hrun s.take hready)
  · exact lawsKept_modWin rfl rfl

section
variable {s : State}

theorem HostReady.works (h : HostReady s) : s.win.engine.Works := by
  rw [h.2]
  exact Engine.works_idle

theorem HostReady.ends (h : HostReady s) (code : Code) (r : Words4) : LawsKept s (s.endCommand code r) :=
  lawsKept_endCommand h.works ..

theorem HostReady.endsPlain (h : HostReady s) (code : Code) : LawsKept s (s.endPlain code) := h.ends ..

/-- What a command does keeps the laws and the engine, and the command ends. -/
theorem HostReady.endsAfter (h : HostReady s) {u : State} (hu : LawsKept s u) (engine : u.win.engine = s.win.engine)
    (code : Code) (r : Words4) : LawsKept s (u.endCommand code r) :=
  hu.trans (lawsKept_endCommand (engine ▸ h.works) ..)

/-- A command that changes no output and no link goes on or ends outside READ_PHASE. -/
theorem HostReady.goes (h : HostReady s) {t : State} (outs : t.outs = s.outs) (linkOuts : t.linkOuts = s.linkOuts)
    (links : t.links = s.links) (applied : t.win.resetApplied = s.win.resetApplied)
    (engine : ∀ cursor, t.win.engine ≠ .readPhase cursor) : LawsKept s t :=
  lawsKept_of_engine outs linkOuts links applied h.works engine

theorem HostReady.runSend (h : HostReady s) : LawsKept s s.runSend := by
  have hbegin (d : DescId) (header : Header) (k : Nat) : LawsKept s (s.beginSend d header k) := by
    unfold State.beginSend
    simp only
    rw [State.writeFrameBytes_frame]
    split <;> exact h.goes rfl rfl rfl rfl fun _ => Engine.noConfusion
  unfold State.runSend
  simp only
  cases classOfWord s.win.taken.w1 with
  | none => exact h.endsPlain _
  | some cls =>
    simp only
    split
    · exact h.endsPlain _
    cases s.lowestFree with
    | none => exact h.endsPlain _
    | some d =>
      simp only
      split
      · exact h.endsPlain _
      split
      · exact h.endsPlain _
      · exact hbegin ..

/-- RECV: the copy taken departs at port 0 as the read phase begins, or is delivered at once (R147). -/
theorem HostReady.runRecv (h : HostReady s) : LawsKept s s.runRecv := by
  unfold State.runRecv
  cases ht : s.outs.p0.takeNext with
  | none => exact h.endsPlain _
  | some next =>
    obtain ⟨d, cls, o⟩ := next
    simp only
    split
    · exact lawsKept_at_host (o := { o with departing := none }) (by simp [State.dropHostCopy])
        (by simp [State.dropHostCopy]) (by simp [State.dropHostCopy]) (fun hb => (hb.takeNext ht).slot none)
        fun _ => Window.hostFits_empty (by simpa [State.dropHostCopy] using h.1) fun _ => Engine.noConfusion
    · refine lawsKept_at_host (o := { o with departing := some ⟨d, cls, 0, false⟩ }) (by simp [State.beginPhase])
        (by simp [State.beginPhase]) (by simp [State.beginPhase]) (fun hb => (hb.takeNext ht).slot _) fun _ => ?_
      exact ⟨fun hon => by simp [State.beginPhase, h.1] at hon, fun _ => ⟨0, rfl⟩, fun _ => Option.some_ne_none _⟩

/-- SKIP: the copy taken leaves its queue, and the slot is as it was (R149). -/
theorem HostReady.runSkip (h : HostReady s) : LawsKept s s.runSkip := by
  unfold State.runSkip
  cases ht : s.outs.p0.takeNext with
  | none => exact h.endsPlain _
  | some next =>
    obtain ⟨d, cls, o⟩ := next
    refine h.endsAfter (lawsKept_at_host (o := o) (by simp) (by simp) (by simp) (fun hb => hb.takeNext ht) fun hw => ?_)
      (by simp) ..
    rw [(Output.takeNext_some ht).1, State.countLost_win, State.releaseCopy_win]
    exact hw

theorem lawsKept_abortPhase (hoff : s.win.resetApplied = false) : LawsKept s s.abortPhase := by
  unfold State.abortPhase
  cases he : s.win.engine with
  | initialising | idle | executingSend | executingClear => exact .refl s
  | writePhase d cursor =>
    exact lawsKept_of_engine (by simp [State.endPlain]) (by simp [State.endPlain]) (by simp [State.endPlain])
      (by simp [State.endPlain]) (by rw [he]; exact ⟨Engine.noConfusion, fun _ => Engine.noConfusion⟩)
      fun _ => Engine.noConfusion
  | readPhase cursor =>
    cases hdep : s.outs.p0.departing with
    | none =>
      have hslot : (s.outs.get .p0).departing = none := hdep
      refine lawsKept_of_window rfl rfl rfl fun _ => ?_
      rw [hslot]
      exact Window.hostFits_empty hoff fun _ => Engine.noConfusion
    | some dep =>
      exact lawsKept_leaveReadPhase (by simp [State.dropHostCopy, PerPort.get]) (by simp [State.dropHostCopy])
        (by simp [State.dropHostCopy]) (by simpa [State.dropHostCopy] using hoff) fun _ => Engine.noConfusion

theorem lawsKept_abort {t : State} (h : exec .abort s = .next t) : LawsKept s t := by
  cases h
  split
  · rename_i hphase
    rw [Bool.and_eq_true, Bool.not_eq_true'] at hphase
    exact lawsKept_abortPhase hphase.2
  · exact lawsKept_commandWrite fun _ hu => hu.endsPlain _

theorem HostReady.runTableWrite (h : HostReady s) : LawsKept s s.runTableWrite := by
  unfold State.runTableWrite
  cases tableWriteEntry s.win.taken with
  | error c => exact h.endsPlain _
  | ok entry => exact h.goes rfl rfl rfl rfl fun _ => Engine.noConfusion

theorem HostReady.runTableRead (h : HostReady s) : LawsKept s s.runTableRead := by
  unfold State.runTableRead
  split
  · exact h.ends ..
  · exact h.endsPlain _

theorem HostReady.runEnable (h : HostReady s) (p : LinkId) : LawsKept s (s.runEnable p) :=
  h.endsAfter (lawsKept_enableLink s p) (congrArg Window.engine (s.enableLink_win p)) ..

theorem HostReady.runDisable (h : HostReady s) (p : LinkId) : LawsKept s (s.runDisable p) := by
  have hend (code : Code) (r : Words4) : LawsKept s ((s.disableLink p).endCommand code r) :=
    h.endsAfter (lawsKept_disableLink s p) (s.disableLink_engine p) ..
  unfold State.runDisable
  cases (s.links.get p).state with
  | disabled | listen | sync | run | faulted => exact hend ..

theorem HostReady.runRestart (h : HostReady s) (p : LinkId) : LawsKept s (s.runRestart p) := by
  have hend (code : Code) (r : Words4) : LawsKept s ((s.restartLink p).endCommand code r) :=
    h.endsAfter (lawsKept_restartLink s p) (s.restartLink_engine p) ..
  unfold State.runRestart
  cases (s.links.get p).state with
  | disabled => exact h.endsPlain _
  | listen | faulted | sync | run => exact hend ..

theorem HostReady.runLinkControl (h : HostReady s) : LawsKept s s.runLinkControl := by
  unfold State.runLinkControl
  split
  · exact h.endsPlain _
  · exact h.endsPlain _
  · exact h.runEnable _
  · exact h.runDisable _
  · exact h.runRestart _

/-- A yield count of at most 15, with the yield run 0 (R79, R83). -/
theorem lawsKept_setYield (s : State) (p : Port) {y : Nat} (hy : y ≤ 15) : LawsKept s (s.setYield p y) :=
  lawsKept_setOut rfl rfl rfl rfl (fun h => ⟨h.express, h.standard, Nat.zero_le _, hy⟩) rfl id id

theorem HostReady.runPortConfig (h : HostReady s) : LawsKept s s.runPortConfig := by
  unfold State.runPortConfig
  simp only
  cases portOfWord s.win.taken.w0 with
  | none => exact h.endsPlain _
  | some p =>
    simp only
    split
    · exact h.endsPlain _
    rename_i hy
    have hyield : LawsKept s (s.setYield p s.win.taken.w1.toNat) := lawsKept_setYield s p (Nat.le_of_not_lt hy)
    cases p.link? with
    | none =>
      simp only
      split
      · exact h.endsPlain _
      · exact h.endsAfter hyield rfl ..
    | some l =>
      cases speedOfWord s.win.taken.w3 with
      | none => exact h.endsPlain _
      | some speed =>
        refine h.endsAfter (hyield.trans ?_) (by rfl) ..
        exact lawsKept_at_output (PerPort.set_get ..).symm rfl rfl rfl rfl id fun h => { h with }

theorem lawsKept_flushOutput (s : State) (p : Port) : LawsKept s (s.flushOutput p) := by
  unfold State.flushOutput
  cases p.link? with
  | none => exact (lawsKept_purge ..).trans (lawsKept_countLost ..)
  | some l =>
    exact (((lawsKept_oweEndCut ..).trans (lawsKept_dropDeparting ..)).trans (lawsKept_purge ..)).trans
      (lawsKept_countLost ..)

theorem HostReady.runPortFlush (h : HostReady s) : LawsKept s s.runPortFlush := by
  unfold State.runPortFlush
  cases portOfWord s.win.taken.w0 with
  | none => exact h.endsPlain _
  | some p => exact h.endsAfter (lawsKept_flushOutput s p) (congrArg Window.engine (s.flushOutput_win p)) ..

theorem HostReady.runReadPort (h : HostReady s) : LawsKept s s.runReadPort := by
  unfold State.runReadPort
  split
  · exact h.endsPlain _
  · split <;> exact h.ends ..

theorem HostReady.runSetPool (h : HostReady s) : LawsKept s s.runSetPool := by
  unfold State.runSetPool
  split
  · exact h.endsPlain _
  cases poolSetting s.pool s.win.taken with
  | none => exact h.endsPlain _
  | some q => exact h.goes rfl rfl rfl rfl fun _ => Engine.noConfusion

theorem HostReady.runReadCounter (h : HostReady s) : LawsKept s s.runReadCounter := by
  unfold State.runReadCounter
  split
  · split
    · exact h.ends ..
    · exact h.endsPlain _
  · exact h.endsPlain _

theorem HostReady.runTakeRecord (h : HostReady s) : LawsKept s s.runTakeRecord := by
  unfold State.runTakeRecord
  cases s.records.list with
  | nil => exact h.ends ..
  | cons r rest => exact h.goes rfl rfl rfl rfl fun _ => Engine.noConfusion

end

/-- CLEAR_SWITCH empties the queues of port 0 and zeroes every yield run, and touches nothing else of an output. -/
theorem State.clearTraffic_out (s : State) (p : Port) : s.clearTraffic.outs.get p =
    if p = .p0 then { (s.outs.get p).resetYield with express := [], standard := [] } else (s.outs.get p).resetYield := by
  cases p <;> rfl

theorem State.clearTraffic_linkOuts (s : State) : s.clearTraffic.linkOuts = s.linkOuts := by
  simp only [State.clearTraffic]

theorem State.clearTraffic_links (s : State) : s.clearTraffic.links = s.links := by simp only [State.clearTraffic]

theorem State.clearTraffic_win (s : State) : s.clearTraffic.win = s.win := by simp only [State.clearTraffic]

theorem lawsKept_clearTraffic (s : State) : LawsKept s s.clearTraffic where
  outputs h := by
    obtain ⟨hb, hf, hw⟩ := outputLaws_iff.1 h
    have hreset {o : Output} (ho : o.Bounded) : o.resetYield.Bounded :=
      ⟨ho.express, ho.standard, Nat.zero_le _, ho.yieldCount⟩
    refine outputLaws_iff.2 ⟨fun p => ?_, fun p => ?_, ?_⟩
    · rw [State.clearTraffic_out]
      split
      · exact (hreset (hb p)).emptied _
      · exact hreset (hb p)
    · rw [State.clearTraffic_out, if_neg p.port_ne_p0, State.clearTraffic_linkOuts, State.clearTraffic_links]
      exact { hf p with }
    · rw [State.clearTraffic_out, if_pos rfl, State.clearTraffic_win]
      exact hw
  timers h := by
    rw [timerLaws_iff, State.clearTraffic_links]
    exact timerLaws_iff.1 h

theorem HostReady.runClearSwitch {s : State} (h : HostReady s) : LawsKept s s.runClearSwitch := by
  unfold State.runClearSwitch
  split
  · exact h.endsPlain _
  · exact (lawsKept_clearTraffic s).trans (lawsKept_of_engine (by simp) (by simp) (by simp) (by simp)
      (by rw [State.clearTraffic_win]; exact h.works) fun _ => Engine.noConfusion)

/-! ## Every command -/

theorem exec_lawsKept {c : Instr} {s t : State} (h : exec c s = .next t) : LawsKept s t := by
  have hcommand {run : State → State} (hrun : ∀ u : State, HostReady u → LawsKept u (run u))
      (h : Host.Outcome.next (s.commandWrite run) = (.next t : Answer)) : LawsKept s t := by
    cases h
    exact lawsKept_commandWrite hrun
  cases c with
  | dataReceived => exact lawsKept_dataReceived h
  | endGoodReceived => exact lawsKept_endGoodReceived h
  | endCutReceived => exact lawsKept_endCutReceived h
  | creditReceived => exact lawsKept_creditReceived h
  | idleReceived => exact lawsKept_idleReceived h
  | helloReceived => exact lawsKept_helloReceived h
  | codeErrorReceived => cases h; exact lawsKept_codeError ..
  | silenceTimerExpiry => exact lawsKept_silenceTimerExpiry h
  | syncTimerExpiry => exact lawsKept_syncTimerExpiry h
  | recoveryTimerExpiry => exact lawsKept_recoveryTimerExpiry h
  | stallTimerExpiry => exact lawsKept_stallTimerExpiry h
  | holdTimerExpiry => exact lawsKept_holdTimerExpiry h
  | refill => exact lawsKept_refill h
  | selection => exact lawsKept_selection h
  | transmitCharacter => exact lawsKept_transmitCharacter h
  | resolution => exact lawsKept_resolution h
  | initialisationEnd => exact lawsKept_initialisationEnd h
  | clearSwitchEnd => exact lawsKept_clearSwitchEnd h
  | hardReset => exact lawsKept_hardReset h
  | softReset | masterEnableWrite => cases h; exact lawsKept_controlWrite ..
  | irqCauseWrite => exact lawsKept_irqCauseWrite h
  | dataWrite => exact lawsKept_dataWrite h
  | dataRead => exact lawsKept_dataRead h
  | registerWrite => exact lawsKept_registerWrite h
  | send => exact hcommand (fun _ hu => hu.runSend) h
  | recv => exact hcommand (fun _ hu => hu.runRecv) h
  | skip => exact hcommand (fun _ hu => hu.runSkip) h
  | abort => exact lawsKept_abort h
  | tableWrite => exact hcommand (fun _ hu => hu.runTableWrite) h
  | tableRead => exact hcommand (fun _ hu => hu.runTableRead) h
  | enable | disable | restart => exact hcommand (fun _ hu => hu.runLinkControl) h
  | portConfig => exact hcommand (fun _ hu => hu.runPortConfig) h
  | portFlush => exact hcommand (fun _ hu => hu.runPortFlush) h
  | readPort => exact hcommand (fun _ hu => hu.runReadPort) h
  | setPool => exact hcommand (fun _ hu => hu.runSetPool) h
  | readPool => exact hcommand (fun _ hu => hu.ends ..) h
  | readCounter => exact hcommand (fun _ hu => hu.runReadCounter) h
  | clearCounters => exact hcommand (run := State.runClearCounters) (fun _ hu => hu.goes rfl rfl rfl rfl fun _ => Engine.noConfusion) h
  | takeRecord => exact hcommand (fun _ hu => hu.runTakeRecord) h
  | clearSwitch => exact hcommand (fun _ hu => hu.runClearSwitch) h
  | badCommand => exact hcommand (fun _ hu => hu.endsPlain _) h
  | resetRelease => exact lawsKept_resetRelease h

/-- A step takes the command at the front of the queue, or none. -/
theorem step_lawsKept {s t : State} (h : step s = .next t) : LawsKept s t := by
  unfold step at h
  cases hp : s.pending with
  | nil =>
    rw [hp] at h
    cases h
    exact .refl s
  | cons c rest =>
    rw [hp] at h
    have hqueue : LawsKept s { s with pending := rest } := lawsKept_of_same rfl rfl (fun _ => rfl) rfl rfl
    exact hqueue.trans (exec_lawsKept h)

/-- Settles O58: the two invariants, each alone, go through every step. -/
theorem stepKeepsOutputAndTimerLaws : Obligations.StepKeepsOutputAndTimerLaws :=
  ⟨fun _ _ hs h => (step_lawsKept h).outputs hs, fun _ _ hs h => (step_lawsKept h).timers hs⟩

end Sys2Proof.Machine
end

section
/-! PROOFS. The outputs and their departures (sections 5.3 to 5.7, 6.6 and 8.6 of the manual): the class rule, the
selection of a copy, its characters, and the events that release copies as lost. -/

namespace Sys2Proof.Machine

set_option Elab.async false

/-! ## The class rule -/

theorem Output.expressTurn_iff {o : Output} :
    o.expressTurn = true ↔ o.standard = [] ∨ o.yieldCount = 0 ∨ o.yieldRun < o.yieldCount := by
  simp [Output.expressTurn, or_assoc]

theorem Output.runAfterExpress_eq (o : Output) :
    o.runAfterExpress = if o.standard = [] ∨ o.yieldCount = 0 then 0 else o.yieldRun + 1 := by
  unfold Output.runAfterExpress
  cases o.standard with
  | nil => simp
  | cons t ts => simp

/-- Rule 1 of R82: the EXPRESS head is taken. -/
theorem Output.takeNext_express {o : Output} {e : DescId} {es : List DescId} (he : o.express = e :: es)
    (hturn : o.expressTurn = true) :
    o.takeNext = some (e, .express, { o with express := es, yieldRun := o.runAfterExpress }) := by
  cases hs : o.standard with
  | nil => simp only [Output.takeNext, he, hs]
  | cons t ts => simp only [Output.takeNext, he, hs, hturn, if_true]

/-- Rule 2 of R82: the STANDARD head is taken. -/
theorem Output.takeNext_standard {o : Output} {t : DescId} {ts : List DescId} (hs : o.standard = t :: ts)
    (hturn : o.express = [] ∨ ¬ o.expressTurn = true) :
    o.takeNext = some (t, .standard, { o with standard := ts, yieldRun := 0 }) := by
  cases he : o.express with
  | nil => simp only [Output.takeNext, he, hs]
  | cons e es =>
    have hno : ¬ o.expressTurn = true := hturn.resolve_left (by simp [he])
    simp only [Output.takeNext, he, hs, if_neg hno]

theorem Output.takeNext_none {o : Output} (he : o.express = []) (hs : o.standard = []) : o.takeNext = none := by
  simp only [Output.takeNext, he, hs]

/-- Settles O36, rule by rule. -/
theorem classRuleOfSelection : Obligations.ClassRuleOfSelection := by
  intro o rule1
  refine ⟨fun e es he hrule => ?_, fun t ts hs hrule => ?_, Output.takeNext_none⟩
  · rw [Output.takeNext_express he (Output.expressTurn_iff.2 hrule), Output.runAfterExpress_eq]
  · exact Output.takeNext_standard hs (hrule.imp_right fun hno hturn => hno (Output.expressTurn_iff.1 hturn))

/-! ## Selection -/

theorem isGroupStart_eq (k size : Nat) : isGroupStart k size = decide (k % 64 = 0 ∧ k < size) := by
  rw [Bool.decide_and]
  rfl

/-- Every frame has a first group (R10). -/
theorem isGroupStart_zero (h : Header) : isGroupStart 0 h.size = true :=
  isGroupStart_of_mod rfl (by unfold Header.size; omega)

/-- An arrival at a position writes the slot and the stall timer (R85, R86). -/
theorem State.arrive_eq (s : State) (p : LinkId) (dep : Departure) (size : Nat) {wait : Bool}
    (hwait : (isGroupStart dep.position size && decide ((s.links.get p).txCredit = 0)) = wait) :
    s.arrive p dep size = { s with
      outs := s.outs.set p.port { s.outs.get p.port with departing := some { dep with waiting := wait } }
      linkOuts := s.linkOuts.set p ((s.linkOuts.get p).arrived wait) } := by
  subst hwait
  rfl

/-- The copy that is taken next departs from position 0, where its first group starts (R45, R81). -/
theorem State.beginDeparture_eq {s : State} {p : LinkId} {d : DescId} {x : Descriptor} {c : Copy}
    (hx : s.desc d = some x) (hc : x.copies.get p.port = some c) (cls : Class) (o : Output) :
    s.beginDeparture p d cls o = { s with
      outs := s.outs.set p.port { o with
        departing := some ⟨d, cls, 0, decide ((s.links.get p).txCredit = 0)⟩ }
      descs := s.descs.set d.val
        (some { x with copies := x.copies.set p.port (some { c with state := .departing }) }) d.isLt
      linkOuts := s.linkOuts.set p ((s.linkOuts.get p).arrived (decide ((s.links.get p).txCredit = 0))) } := by
  rw [State.beginDeparture, State.markDeparting_setOut, State.markDeparting_of_some hx hc,
    State.arrive_eq _ _ _ _ (wait := decide ((s.links.get p).txCredit = 0))]
  · simp [State.setOut, State.setDesc]
  · simp only [isGroupStart_zero, Bool.true_and]
    rfl

/-- Settles O37: the conditions of R81, and otherwise nothing. -/
theorem selectionStartsADeparture : Obligations.SelectionStartsADeparture := by
  intro s p lo
  refine ⟨fun d cls o x c hopen hslot ht hx hc => ?selects, fun hnot => ?nothing⟩
  case selects =>
    have hexec : exec (.selection p) s = .next (s.beginDeparture p d cls o) := by
      simp only [exec, execSelection]
      rw [if_pos ⟨hopen, hslot⟩, ht]
    rw [hexec, State.beginDeparture_eq hx hc]
    rfl
  case nothing =>
    simp only [exec, execSelection]
    split
    · rename_i hready
      obtain ⟨he, hs⟩ := (hnot.resolve_left fun h => h hready.1).resolve_left fun h => h hready.2
      rw [Output.takeNext_none he hs]
    · rfl

/-! ## Copies released as lost -/

/-- A purge that releases copies is counted and reported once (R90, R91). -/
theorem State.purgeLost_eq (s : State) (p : LinkId) :
    let n := (s.outs.get p.port).express.length + (s.outs.get p.port).standard.length
    let t := s.purge p.port
    s.purgeLost p = if n = 0 then t else { t with
      counters := t.counters.set p.port { t.counters.get p.port with
        copiesLost := satAdd (t.counters.get p.port).copiesLost n }
      records := t.records.append ⟨0, .linkLost, none, some p.port, none, some n, none⟩ } := by
  intro n t
  have hn : (s.outs.get p.port).queued.length = n := List.length_append
  unfold State.purgeLost
  rw [hn]
  rfl

/-- Settles O32: the timer code by its two ranges, and the expiry by whether the hold timer runs. -/
theorem holdExpiryPurgesTheOutput : Obligations.HoldExpiryPurgesTheOutput := by
  refine ⟨fun code => ⟨fun _ hle => if_pos hle, fun hge => if_neg (by omega), fun h => if_neg h, fun h => if_pos h⟩,
    fun s p => ⟨s.purgeLost_eq p, fun hrun => ?runs, fun hstop => ?stopped⟩⟩
  case runs =>
    simp only [exec, execHoldTimerExpiry]
    rw [if_pos (Timer.isRunning_iff.2 hrun)]
    rfl
  case stopped =>
    simp only [exec, execHoldTimerExpiry, hstop]
    rfl

theorem State.headerOf_of_some {s : State} {d : DescId} {x : Descriptor} {h : Header} (hx : s.desc d = some x)
    (hh : x.header = some h) : s.headerOf d = h := by
  simp [State.headerOf, hx, hh]

theorem State.departureStarted_of_some {s : State} {p : LinkId} {dep : Departure}
    (hdep : (s.outs.get p.port).departing = some dep) : s.departureStarted p = decide (0 < dep.position) := by
  simp only [State.departureStarted, hdep]

/-- The slot emptied and the stall timer stopped, before the departing copy is released (R46, R86). -/
theorem State.dropDeparting_of_some {s : State} {p : LinkId} {dep : Departure}
    (hdep : (s.outs.get p.port).departing = some dep) :
    s.dropDeparting p = ({ s with
      outs := s.outs.set p.port { s.outs.get p.port with departing := none }
      linkOuts := s.linkOuts.set p { s.linkOuts.get p with stallTimer := .stopped } } : State).releaseCopy p.port
        dep.desc := by
  simp only [State.dropDeparting, hdep]
  rfl

/-- A link output with the slot empty has no departing copy to drop. -/
theorem State.dropDeparting_of_none {s : State} {p : LinkId} (hdep : (s.outs.get p.port).departing = none) :
    s.dropDeparting p = s := by
  simp only [State.dropDeparting, hdep]

/-- A departing copy is cut: END_CUT becomes owed when a DATA character of it had gone (R87, R94, R111). -/
def State.cutDeparture (s : State) (p : LinkId) (dep : Departure) : State :=
  ({ s with
    outs := s.outs.set p.port { s.outs.get p.port with departing := none }
    linkOuts := s.linkOuts.set p { s.linkOuts.get p with stallTimer := .stopped }
    links := s.links.set p { s.links.get p with
      endCutOwed := (s.links.get p).endCutOwed || decide (0 < dep.position) } } : State).releaseCopy p.port dep.desc

theorem State.cutDeparture_eq {s : State} {p : LinkId} {dep : Departure}
    (hdep : (s.outs.get p.port).departing = some dep) :
    (s.modLink p fun l => { l with endCutOwed := (s.links.get p).endCutOwed || s.departureStarted p }).dropDeparting p =
      s.cutDeparture p dep := by
  rw [State.departureStarted_of_some hdep]
  exact State.dropDeparting_of_some hdep

/-- Settles O34: a running stall timer cuts the departure, counts it and reports it. -/
theorem stallExpiryCutsTheDeparture : Obligations.StallExpiryCutsTheDeparture := by
  refine fun s p => ⟨fun dep x h hrun hdep hx hh => ⟨_, rfl, ?_⟩, fun hstop => ?_⟩
  · simp only [exec, execStallTimerExpiry]
    rw [if_pos (Timer.isRunning_iff.2 hrun), hdep]
    simp only [hx, State.cutDeparture_eq hdep, State.headerOf_of_some hx hh]
    rfl
  · simp only [exec, execStallTimerExpiry, hstop]
    rfl

/-! ## Transmission of a departure -/

/-- The transmitter of a link in RUN with a departure and no END_CUT owed (R111). -/
theorem exec_transmitCharacter_departure {s : State} {p : LinkId} {dep : Departure}
    (hs : (s.links.get p).state = .run) (howed : (s.links.get p).endCutOwed = false)
    (hdep : (s.outs.get p.port).departing = some dep) :
    exec (.transmitCharacter p) s = .next
      (if isGroupStart dep.position (s.headerOf dep.desc).size then
        if (s.pool.links.get p).pendingCredit ≠ 0 then s.sendCredit p
        else if (s.links.get p).txCredit ≠ 0 then
          (s.modLink p fun l => { l with txCredit := l.txCredit - 1 }).sendDeparture p dep
        else s.putLine p (some .idle)
      else s.sendDeparture p dep) := by
  simp only [exec, execTransmitCharacter, hs, State.transmitInRun, howed, Bool.false_eq_true, if_false, hdep]

/-- A DATA character of a departure, sent with a transmit credit left, brings it to the next position (R85, R86). -/
theorem State.sendDeparture_data {s : State} {p : LinkId} {dep : Departure}
    (hpos : dep.position < (s.headerOf dep.desc).size + 2) {wait : Bool}
    (hwait : (isGroupStart (dep.position + 1) (s.headerOf dep.desc).size &&
      decide ((s.links.get p).txCredit = 0)) = wait) :
    s.sendDeparture p dep = { s with
      links := s.links.set p { s.links.get p with line := some (s.departureChar dep.desc dep.position) }
      outs := s.outs.set p.port { s.outs.get p.port with
        departing := some { dep with position := dep.position + 1, waiting := wait } }
      linkOuts := s.linkOuts.set p ((s.linkOuts.get p).arrived wait) } := by
  unfold State.sendDeparture
  simp only
  rw [if_neg (by omega), State.arrive_eq _ _ _ _ (wait := wait) (by simpa using hwait)]
  rfl

/-- The first DATA character of a group spends one credit (R9). -/
theorem State.sendDeparture_spends {s : State} {p : LinkId} {dep : Departure}
    (hpos : dep.position < (s.headerOf dep.desc).size + 2) {wait : Bool}
    (hwait : (isGroupStart (dep.position + 1) (s.headerOf dep.desc).size &&
      decide ((s.links.get p).txCredit - 1 = 0)) = wait) :
    (s.modLink p fun l => { l with txCredit := l.txCredit - 1 }).sendDeparture p dep = { s with
      links := s.links.set p { s.links.get p with
        txCredit := (s.links.get p).txCredit - 1, line := some (s.departureChar dep.desc dep.position) }
      outs := s.outs.set p.port { s.outs.get p.port with
        departing := some { dep with position := dep.position + 1, waiting := wait } }
      linkOuts := s.linkOuts.set p ((s.linkOuts.get p).arrived wait) } := by
  rw [State.sendDeparture_data (s := s.modLink p fun l => { l with txCredit := l.txCredit - 1 }) hpos
    (wait := wait) (by simp only [State.modLink_links, PerLink.get_set_self]; exact hwait)]
  simp only [State.modLink_links, PerLink.set_set, PerLink.get_set_self]
  rfl

/-- END_GOOD, sent when both check bytes have gone, delivers the copy (R85). -/
theorem State.sendDeparture_end {s : State} {p : LinkId} {dep : Departure}
    (hdep : (s.outs.get p.port).departing = some dep) (hpos : (s.headerOf dep.desc).size + 2 ≤ dep.position) :
    s.sendDeparture p dep = (({ s with
      links := s.links.set p { s.links.get p with line := some .endGood }
      outs := s.outs.set p.port { s.outs.get p.port with departing := none }
      linkOuts := s.linkOuts.set p { s.linkOuts.get p with stallTimer := .stopped } } : State).releaseCopy p.port
        dep.desc).countDelivered p.port := by
  have hchar : s.departureChar dep.desc dep.position = .endGood := by
    unfold State.departureChar
    simp only
    rw [if_neg (by omega), if_neg (by omega), if_neg (by omega)]
  have hdep' : ((s.putLine p (some .endGood)).outs.get p.port).departing = some dep := hdep
  unfold State.sendDeparture
  simp only
  rw [if_pos hpos, hchar, State.dropDeparting_of_some hdep']
  rfl

/-- Settles O39, by the position of the departure and the two credits. -/
theorem transmissionOfADeparture : Obligations.TransmissionOfADeparture := by
  intro s p dep x h l q lo size groupStart moved hs howed hdep hx hh
  have hexec := exec_transmitCharacter_departure hs howed hdep
  have hheader : s.headerOf dep.desc = h := State.headerOf_of_some hx hh
  have hstart (k : Nat) : isGroupStart k (s.headerOf dep.desc).size = decide (groupStart k) := by
    rw [hheader]
    exact isGroupStart_eq k h.size
  have hsize : (s.headerOf dep.desc).size = size := by rw [hheader]; rfl
  rw [hstart] at hexec
  refine ⟨fun hg hc => ?credit, fun hg hc ht => ?idle, fun hg hc ht => ?spends, fun hg hpos => ?goes,
    fun hpos => ⟨_, rfl, ?ends⟩⟩
  case credit =>
    rw [hexec, decide_eq_true hg, if_pos rfl, if_pos hc]
    rfl
  case idle =>
    rw [hexec, decide_eq_true hg, if_pos rfl, if_neg (not_not_intro hc), if_neg (not_not_intro ht)]
    rfl
  case spends =>
    have hpos : dep.position < (s.headerOf dep.desc).size + 2 := by rw [hsize]; exact Nat.lt_add_right 2 hg.2
    rw [hexec, decide_eq_true hg, if_pos rfl, if_neg (not_not_intro hc), if_pos ht,
      State.sendDeparture_spends hpos
        (wait := decide (groupStart (dep.position + 1)) && decide (l.txCredit - 1 = 0)) (by rw [hstart])]
    rfl
  case goes =>
    rw [hexec, decide_eq_false hg, if_neg Bool.false_ne_true,
      State.sendDeparture_data (by rw [hsize]; exact hpos)
        (wait := decide (groupStart (dep.position + 1)) && decide (l.txCredit = 0)) (by rw [hstart])]
    rfl
  case ends =>
    have hg : ¬ groupStart dep.position := fun hg => absurd hg.2 (by omega)
    rw [hexec, decide_eq_false hg, if_neg Bool.false_ne_true, State.sendDeparture_end hdep (by rw [hsize]; exact hpos)]
    rfl

/-! ## PORT_FLUSH -/

/-- Releases and purges do not read the window. -/
theorem State.releaseCopy_modWin (s : State) (f : Window → Window) (p : Port) (d : DescId) :
    (s.modWin f).releaseCopy p d = (s.releaseCopy p d).modWin f := by
  have hfree : (s.modWin f).freeDesc d = (s.freeDesc d).modWin f := by
    unfold State.freeDesc
    rw [show (s.modWin f).desc d = s.desc d from rfl]
    cases s.desc d <;> rfl
  unfold State.releaseCopy
  rw [show (s.modWin f).desc d = s.desc d from rfl]
  cases s.desc d with
  | none => rfl
  | some x =>
    simp only [hfree]
    cases x.copies.get p with
    | none => rfl
    | some c =>
      simp only
      split <;> rfl

theorem State.releaseAll_modWin (s : State) (f : Window → Window) (p : Port) (ds : List DescId) :
    (s.modWin f).releaseAll p ds = (s.releaseAll p ds).modWin f := by
  induction ds generalizing s with
  | nil => rfl
  | cons d rest ih => rw [State.releaseAll, State.releaseCopy_modWin, ih, State.releaseAll]

theorem State.purge_modWin (s : State) (f : Window → Window) (p : Port) :
    (s.modWin f).purge p = (s.purge p).modWin f :=
  State.releaseAll_modWin (s.setOut p { s.outs.get p with express := [], standard := [] }) f p (s.outs.get p).queued

theorem State.cutDeparture_modWin (s : State) (f : Window → Window) (l : LinkId) (dep : Departure) :
    (s.modWin f).cutDeparture l dep = (s.cutDeparture l dep).modWin f := by
  unfold State.cutDeparture
  rw [← State.releaseCopy_modWin]
  rfl

/-- With nothing departing, a flush purges the queues alone (R94). -/
theorem State.flushOutput_purges {s : State} {p : Port} (h : p.link? = none ∨ (s.outs.get p).departing = none) :
    s.flushOutput p = (s.purge p).countLost p (s.outs.get p).queued.length := by
  unfold State.flushOutput
  cases hp : p.link? with
  | none => rfl
  | some l =>
    have hslot : (s.outs.get p).departing = none := h.resolve_left (by simp [hp])
    have hpl := Port.link_eq_some.1 hp
    subst hpl
    have hstarted : s.departureStarted l = false := by simp only [State.departureStarted, hslot]
    have hsame : (s.modLink l fun k => { k with endCutOwed := (s.links.get l).endCutOwed }) = s :=
      congrArg (fun v => { s with links := v }) (PerLink.set_get s.links l)
    simp only [hstarted, Bool.or_false, hsame, State.dropDeparting_of_none hslot, State.copiesAt, hslot]
    rfl

/-- A flush of a link output with a copy departing cuts it and purges the queues (R94). -/
theorem State.flushOutput_cuts {s : State} {l : LinkId} {dep : Departure}
    (hdep : (s.outs.get l.port).departing = some dep) :
    s.flushOutput l.port =
      ((s.cutDeparture l dep).purge l.port).countLost l.port ((s.outs.get l.port).queued.length + 1) := by
  unfold State.flushOutput
  simp only [LinkId.link_port, State.cutDeparture_eq hdep, State.copiesAt, hdep]
  rfl

theorem State.flushOutput_modWin (s : State) (f : Window → Window) (p : Port) :
    (s.modWin f).flushOutput p = (s.flushOutput p).modWin f := by
  by_cases h : p.link? = none ∨ (s.outs.get p).departing = none
  · rw [State.flushOutput_purges h, State.flushOutput_purges (s := s.modWin f) h, State.purge_modWin]
    rfl
  · obtain ⟨hlink, hslot⟩ := not_or.1 h
    obtain ⟨l, hl⟩ := Option.ne_none_iff_exists'.1 hlink
    have hpl := Port.link_eq_some.1 hl
    subst hpl
    obtain ⟨dep, hdep⟩ := Option.ne_none_iff_exists'.1 hslot
    rw [State.flushOutput_cuts hdep, State.flushOutput_cuts (s := s.modWin f) hdep, State.cutDeparture_modWin,
      State.purge_modWin]
    rfl

theorem exec_portFlush_of_ready {s : State} (h : HostReady s) : exec .portFlush s = .next s.take.runPortFlush :=
  congrArg Host.Outcome.next (State.commandWrite_ready h State.runPortFlush)

/-- PORT_FLUSH of a port flushes its output and returns the number released (R154). -/
theorem exec_portFlush_port {s : State} {p : Port} {n : Nat} (h : HostReady s)
    (hw : s.win.params.w0.toNat = p.num)
    (hhost : p.link? = none → (s.outs.get p).queued.length = n) (hlink : p.link? ≠ none → s.copiesAt p = n) :
    exec .portFlush s = .next ((s.flushOutput p).afterCommand .ok ⟨BitVec.ofNat 16 n, 0, 0, 0⟩) := by
  have hport : portOfWord s.take.win.taken.w0 = some p := portOfWord_num hw
  have hflush : s.take.flushOutput p = (s.flushOutput p).take := s.flushOutput_modWin _ p
  rw [exec_portFlush_of_ready h, State.runPortFlush, hport]
  cases hp : p.link? with
  | none =>
    rw [← hhost hp]
    simp only [hp, hflush, State.take_endCommand]
    rfl
  | some l =>
    rw [← hlink (by simp [hp])]
    simp only [hp, hflush, State.take_endCommand]
    rfl

/-- Settles O49, by whether a copy departs at a link output. -/
theorem portFlushReleasesTheCopies : Obligations.PortFlushReleasesTheCopies := by
  refine fun s h => ⟨fun hw => ?refused, fun p hw => ?flushes⟩
  case refused =>
    have hport : portOfWord s.take.win.taken.w0 = none := portOfWord_none hw
    rw [exec_portFlush_of_ready h, State.runPortFlush, hport]
    rfl
  case flushes =>
    intro o queued done
    have hqueued : (s.outs.get p).queued.length = queued := List.length_append
    refine ⟨fun hnone => ?purges, fun l dep hl hdep => ?cuts⟩
    case purges =>
      have hcopies : p.link? ≠ none → s.copiesAt p = queued := fun hlink => by
        have hslot : (s.outs.get p).departing = none := hnone.resolve_left hlink
        simpa [State.copiesAt, hslot] using hqueued
      show exec .portFlush s = _
      rw [exec_portFlush_port h hw (fun _ => hqueued) hcopies, State.flushOutput_purges hnone, hqueued]
      rfl
    case cuts =>
      have hpl := Port.link_eq_some.1 hl
      subst hpl
      have hdeparts : (s.outs.get l.port).departing = some dep := hdep
      have hcopies : s.copiesAt l.port = queued + 1 := by simp [State.copiesAt, hdeparts, hqueued]
      show exec .portFlush s = _
      rw [exec_portFlush_port h hw (fun hhost => by simp at hhost) (fun _ => hcopies),
        State.flushOutput_cuts hdeparts, hqueued]
      rfl

end Sys2Proof.Machine
end

section
/-! PROOFS. A link port between its states (chapter 6 of the manual): the characters it ignores and those that bring it
up, credit in RUN, what its transmitter sends outside a departure, which events are faults, and the end of recovery. -/

namespace Sys2Proof.Machine

set_option Elab.async false

section Characters

variable {s : State} {p : LinkId}

/-! ## Characters ignored -/

/-- Outside SYNC and RUN no symbol is a CODE_ERROR (R100 to R102). -/
theorem State.codeError_ignored
    (hs : (s.links.get p).state = .disabled ∨ (s.links.get p).state = .listen ∨ (s.links.get p).state = .faulted) :
    s.codeError p = s := by
  unfold State.codeError
  rcases hs with h | h | h <;> simp only [h]

/-- Outside SYNC and RUN a CREDIT is ignored, also one whose count has no control code. -/
theorem exec_creditReceived_ignored
    (hs : (s.links.get p).state = .disabled ∨ (s.links.get p).state = .listen ∨ (s.links.get p).state = .faulted)
    (n : Nat) : exec (.creditReceived p n) s = .next s := by
  simp only [exec, execCreditReceived]
  split
  · rcases hs with h | h | h <;> simp only [h]
  · rw [State.codeError_ignored hs]

/-! ## Bring-up -/

theorem exec_helloReceived_of_listen (hs : (s.links.get p).state = .listen) :
    exec (.helloReceived p) s = .next (s.enterSync p) := by
  simp only [exec, execHelloReceived, hs]

theorem exec_helloReceived_of_sync (hs : (s.links.get p).state = .sync) :
    exec (.helloReceived p) s = .next (s.restartSilence p) := by
  simp only [exec, execHelloReceived, hs]

theorem exec_idleReceived_of_sync (hs : (s.links.get p).state = .sync) :
    exec (.idleReceived p) s = .next (s.enterRun p (s.links.get p).txCredit) := by
  simp only [exec, execIdleReceived, hs]

theorem exec_idleReceived_of_run (hs : (s.links.get p).state = .run) :
    exec (.idleReceived p) s = .next (s.restartSilence p) := by
  simp only [exec, execIdleReceived, hs]

theorem exec_creditReceived_of_sync {n : Nat} (hs : (s.links.get p).state = .sync) (h1 : 1 ≤ n) (h16 : n ≤ 16) :
    exec (.creditReceived p n) s = .next (s.enterRun p n) := by
  simp only [exec, execCreditReceived, h1, h16, and_self, if_true, hs]

theorem exec_creditReceived_of_run {n : Nat} (hs : (s.links.get p).state = .run) (h1 : 1 ≤ n) (h16 : n ≤ 16) :
    exec (.creditReceived p n) s = .next ((s.restartSilence p).creditInRun p n) := by
  simp only [exec, execCreditReceived, h1, h16, and_self, if_true, hs]

/-! ## Credit in RUN -/

/-- The state after a CREDIT(n) within the limit: credit raised, silence timer started again (R107, R110). -/
def State.raiseCredit (s : State) (p : LinkId) (n : Nat) : State :=
  { s with
    links := s.links.set p
      { (s.links.get p).heard (s.links.get p).rx with txCredit := (s.links.get p).txCredit + n } }

/-- A CREDIT that takes the transmit credit above its limit is a fault (R110). -/
theorem State.creditInRun_overrun {n : Nat} (hn : 64 < (s.links.get p).txCredit + n) :
    (s.restartSilence p).creditInRun p n = s.fault p .creditOverrun := by
  have hcredit : ((s.restartSilence p).links.get p).txCredit = (s.links.get p).txCredit := by simp
  have hno : ¬ (s.links.get p).txCredit + n ≤ Config.creditMax := Nat.not_le.2 hn
  rw [State.creditInRun, hcredit, if_neg hno, State.fault_restartSilence]

/-- A CREDIT within the limit raises the credit, and then may end a wait (R86, R110). -/
theorem State.creditInRun_raises {n : Nat} (hn : (s.links.get p).txCredit + n ≤ 64) :
    (s.restartSilence p).creditInRun p n = (s.raiseCredit p n).endWait p := by
  have hcredit : ((s.restartSilence p).links.get p).txCredit = (s.links.get p).txCredit := by simp
  have hraise : ((s.restartSilence p).modLink p fun l => { l with txCredit := l.txCredit + n }) =
      s.raiseCredit p n := by
    rw [State.restartSilence_eq_setLink, State.modLink_setLink]
    rfl
  rw [State.creditInRun, hcredit, hraise]
  exact if_pos hn

theorem State.endWait_of_not_waiting
    (h : ∀ dep, (s.outs.get p.port).departing = some dep → dep.waiting = false) : s.endWait p = s := by
  unfold State.endWait
  cases hdep : (s.outs.get p.port).departing with
  | none => rfl
  | some dep => simp only [h dep hdep, Bool.false_eq_true, if_false]

/-- Credit ends the wait of a departure at a group start, and its stall timer stops (R86). -/
theorem State.endWait_of_waiting {dep : Departure} (hdep : (s.outs.get p.port).departing = some dep)
    (hwait : dep.waiting = true) :
    s.endWait p = { s with
      outs := s.outs.set p.port { s.outs.get p.port with departing := some { dep with waiting := false } }
      linkOuts := s.linkOuts.set p { s.linkOuts.get p with stallTimer := .stopped } } := by
  simp only [State.endWait, hdep, hwait, if_true]
  rfl

/-! ## Transmission outside a departure -/

theorem exec_transmitCharacter_silent (hs : (s.links.get p).state = .disabled ∨ (s.links.get p).state = .faulted) :
    exec (.transmitCharacter p) s = .next (s.putLine p none) := by
  rcases hs with h | h <;> simp only [exec, execTransmitCharacter, h]

theorem exec_transmitCharacter_of_listen (hs : (s.links.get p).state = .listen) :
    exec (.transmitCharacter p) s = .next (s.putLine p (some .hello)) := by
  simp only [exec, execTransmitCharacter, hs]

theorem exec_transmitCharacter_of_sync (hs : (s.links.get p).state = .sync) :
    exec (.transmitCharacter p) s = .next (s.transmitInSync p) := by
  simp only [exec, execTransmitCharacter, hs]

theorem exec_transmitCharacter_of_run (hs : (s.links.get p).state = .run) :
    exec (.transmitCharacter p) s = .next (s.transmitInRun p) := by
  simp only [exec, execTransmitCharacter, hs]

/-- A link port changed and a character put on its pair are one write of the link port. -/
theorem State.putLine_modLink (f : LinkPort → LinkPort) (c : Option LinkChar) :
    (s.modLink p f).putLine p c = { s with links := s.links.set p { f (s.links.get p) with line := c } } :=
  s.modLink_setLink p (f (s.links.get p)) _

/-- The SYNC stream of R103: first a HELLO. -/
theorem State.transmitInSync_hello (h : (s.links.get p).syncStep = .hello) :
    s.transmitInSync p = { s with
      links := s.links.set p { s.links.get p with syncStep := .idle, line := some .hello } } := by
  simp only [State.transmitInSync, h, State.putLine_modLink]

/-- The SYNC stream of R103: then an IDLE. -/
theorem State.transmitInSync_idle (h : (s.links.get p).syncStep = .idle) :
    s.transmitInSync p = { s with
      links := s.links.set p { s.links.get p with syncStep := .stream, line := some .idle } } := by
  simp only [State.transmitInSync, h, State.putLine_modLink]

/-- The SYNC stream of R103: from then on CREDIT or IDLE. -/
theorem State.transmitInSync_stream (h : (s.links.get p).syncStep = .stream) :
    s.transmitInSync p = s.sendCreditOrIdle p := by
  simp only [State.transmitInSync, h]

/-- An END_CUT owed goes before everything else (R111). -/
theorem State.transmitInRun_endCut (h : (s.links.get p).endCutOwed = true) :
    s.transmitInRun p = { s with
      links := s.links.set p { s.links.get p with endCutOwed := false, line := some .endCut } } := by
  simp only [State.transmitInRun, h, if_true, State.putLine_modLink]

/-- Between frames a link in RUN sends CREDIT or IDLE (R111). -/
theorem State.transmitInRun_between (howed : (s.links.get p).endCutOwed = false)
    (hslot : (s.outs.get p.port).departing = none) : s.transmitInRun p = s.sendCreditOrIdle p := by
  simp only [State.transmitInRun, howed, Bool.false_eq_true, if_false, hslot]

/-! ## Fault conditions -/

theorem exec_codeErrorReceived_fault (hs : (s.links.get p).state = .sync ∨ (s.links.get p).state = .run) :
    exec (.codeErrorReceived p) s = .next (s.fault p .codeError) := by
  rcases hs with h | h <;> simp only [exec, execCodeErrorReceived, State.codeError, h]

theorem exec_silenceTimerExpiry_fault (hs : (s.links.get p).state = .sync ∨ (s.links.get p).state = .run)
    (ht : (s.links.get p).silenceTimer ≠ .stopped) :
    exec (.silenceTimerExpiry p) s = .next (s.fault p .silence) := by
  have hrun : (s.links.get p).silenceTimer.isRunning = true := Timer.isRunning_iff.2 ht
  rcases hs with h | h <;> simp only [exec, execSilenceTimerExpiry, hrun, if_true, h]

theorem exec_silenceTimerExpiry_stopped (ht : (s.links.get p).silenceTimer = .stopped) :
    exec (.silenceTimerExpiry p) s = .next s := by
  simp only [exec, execSilenceTimerExpiry, ht, Timer.isRunning, Bool.false_eq_true, if_false]

theorem exec_syncTimerExpiry_fault (hs : (s.links.get p).state = .sync)
    (ht : (s.links.get p).syncTimer ≠ .stopped) : exec (.syncTimerExpiry p) s = .next (s.fault p .syncTimeout) := by
  have hrun : (s.links.get p).syncTimer.isRunning = true := Timer.isRunning_iff.2 ht
  simp only [exec, execSyncTimerExpiry, hrun, if_true, hs]

theorem exec_syncTimerExpiry_stopped (ht : (s.links.get p).syncTimer = .stopped) :
    exec (.syncTimerExpiry p) s = .next s := by
  simp only [exec, execSyncTimerExpiry, ht, Timer.isRunning, Bool.false_eq_true, if_false]

theorem exec_dataReceived_of_sync (hs : (s.links.get p).state = .sync) (b : Byte) :
    exec (.dataReceived p b) s = .next (s.fault p .protocol) := by
  simp only [exec, execDataReceived, hs]

theorem exec_endGoodReceived_of_sync (hs : (s.links.get p).state = .sync) :
    exec (.endGoodReceived p) s = .next (s.fault p .protocol) := by
  simp only [exec, execEndGoodReceived, hs]

theorem exec_endCutReceived_of_sync (hs : (s.links.get p).state = .sync) :
    exec (.endCutReceived p) s = .next (s.fault p .protocol) := by
  simp only [exec, execEndCutReceived, hs]

theorem exec_endGoodReceived_no_frame (hs : (s.links.get p).state = .run) (hrx : (s.links.get p).rx = none) :
    exec (.endGoodReceived p) s = .next (s.fault p .protocol) := by
  simp only [exec, execEndGoodReceived, hs, hrx]

theorem exec_endCutReceived_no_frame (hs : (s.links.get p).state = .run) (hrx : (s.links.get p).rx = none) :
    exec (.endCutReceived p) s = .next (s.fault p .protocol) := by
  simp only [exec, execEndCutReceived, hs, hrx]

theorem exec_helloReceived_of_run (hs : (s.links.get p).state = .run) :
    exec (.helloReceived p) s = .next (s.fault p .restartSeen) := by
  simp only [exec, execHelloReceived, hs]

/-- A fault outside a frame reports none lost (R115). -/
theorem State.fault_no_frame (hrx : (s.links.get p).rx = none) (kind : FaultKind) :
    s.fault p kind = s.enterFaulted p kind none := by
  rw [State.fault, hrx, lostFrame_none]

/-- A fault in a frame reports it lost with its header, but not one that is sinking surplus (R115). -/
theorem State.fault_in_frame {f : RxFrame} (hrx : (s.links.get p).rx = some f) (kind : FaultKind) :
    s.fault p kind =
      s.enterFaulted p kind (if f.disposition = .sinkingSurplus then none else some f.header) := by
  rw [State.fault, hrx, lostFrame_some]

/-! ## The end of recovery -/

theorem exec_recoveryTimerExpiry_listens (hs : (s.links.get p).state = .faulted)
    (ht : (s.links.get p).recoveryTimer ≠ .stopped)
    (h : (s.links.get p).restartRequest = true ∨ (s.linkOuts.get p).autoRestart = true) :
    exec (.recoveryTimerExpiry p) s = .next (s.enterListen p) := by
  have hrun : (s.links.get p).recoveryTimer.isRunning = true := Timer.isRunning_iff.2 ht
  simp only [exec, execRecoveryTimerExpiry, hrun, if_true, hs, Bool.or_eq_true, h]

theorem exec_recoveryTimerExpiry_waits (hs : (s.links.get p).state = .faulted)
    (ht : (s.links.get p).recoveryTimer ≠ .stopped) (hrequest : (s.links.get p).restartRequest = false)
    (hauto : (s.linkOuts.get p).autoRestart = false) :
    exec (.recoveryTimerExpiry p) s = .next (s.modLink p fun l => { l with recoveryTimer := .stopped }) := by
  have hrun : (s.links.get p).recoveryTimer.isRunning = true := Timer.isRunning_iff.2 ht
  simp only [exec, execRecoveryTimerExpiry, hrun, if_true, hs, hrequest, hauto, Bool.or_self, Bool.false_eq_true,
    if_false]

theorem exec_recoveryTimerExpiry_stopped (ht : (s.links.get p).recoveryTimer = .stopped) :
    exec (.recoveryTimerExpiry p) s = .next s := by
  simp only [exec, execRecoveryTimerExpiry, ht, Timer.isRunning, Bool.false_eq_true, if_false]

end Characters

/-! ## The statements -/

/-- Settles O22, character by character over the states that ignore it. -/
theorem ignoredCharacters : Obligations.IgnoredCharacters := by
  refine fun s p => ⟨fun hs => ⟨fun b => ?data, ?endGood, ?endCut, exec_creditReceived_ignored hs, ?idle,
    congrArg _ (State.codeError_ignored hs)⟩, fun hs => ?hello⟩
  case data => rcases hs with h | h | h <;> simp only [exec, execDataReceived, h]
  case endGood => rcases hs with h | h | h <;> simp only [exec, execEndGoodReceived, h]
  case endCut => rcases hs with h | h | h <;> simp only [exec, execEndCutReceived, h]
  case idle => rcases hs with h | h | h <;> simp only [exec, execIdleReceived, h]
  case hello => rcases hs with h | h <;> simp only [exec, execHelloReceived, h]

/-- Settles O23: the entries to SYNC and RUN, and the silence timer, written out. -/
theorem bringUpByHelloIdleAndCredit : Obligations.BringUpByHelloIdleAndCredit :=
  fun _ _ => ⟨exec_helloReceived_of_listen, exec_helloReceived_of_sync, exec_idleReceived_of_sync,
    fun hs _ h1 h16 => exec_creditReceived_of_sync hs h1 h16⟩

/-- Settles O24: the limit of the credit decides between the fault and the raise, and the departure whether a wait
ends. -/
theorem idleAndCreditInRun : Obligations.IdleAndCreditInRun := by
  intro s p l raised hs
  refine ⟨exec_idleReceived_of_run hs, fun n h1 h16 => ?_⟩
  rw [exec_creditReceived_of_run hs h1 h16]
  refine ⟨fun hn => ?overrun, fun hn hnone => ?free, fun hn dep hdep hwait => ?waiting⟩
  case overrun => rw [State.creditInRun_overrun hn]
  case free =>
    rw [State.creditInRun_raises hn, State.endWait_of_not_waiting (s := s.raiseCredit p n) hnone]
    rfl
  case waiting =>
    rw [State.creditInRun_raises hn, State.endWait_of_waiting (s := s.raiseCredit p n) hdep hwait]
    rfl

/-- Settles O38, by the state of the link; in SYNC by the place in its stream, in RUN by what is owed or departs. -/
theorem transmissionOutsideADeparture : Obligations.TransmissionOutsideADeparture := by
  intro s p l q sends filler
  have hfiller : s.sendCreditOrIdle p = filler := rfl
  refine ⟨exec_transmitCharacter_silent, exec_transmitCharacter_of_listen, fun hs => ?sync, fun hs => ?run⟩
  case sync =>
    rw [exec_transmitCharacter_of_sync hs, ← hfiller]
    exact ⟨fun h => congrArg _ (State.transmitInSync_hello h), fun h => congrArg _ (State.transmitInSync_idle h),
      fun h => congrArg _ (State.transmitInSync_stream h)⟩
  case run =>
    rw [exec_transmitCharacter_of_run hs, ← hfiller]
    exact ⟨fun howed => congrArg _ (State.transmitInRun_endCut howed),
      fun howed hslot => congrArg _ (State.transmitInRun_between howed hslot)⟩

/-- Settles O30: each row is the fault of its kind, which loses the frame in progress, or the expiry of a timer that
does not run. -/
theorem faultConditions : Obligations.FaultConditions := by
  intro s p l lost
  refine ⟨fun hs => ⟨exec_codeErrorReceived_fault hs, exec_silenceTimerExpiry_fault hs⟩,
    fun hs => ⟨exec_syncTimerExpiry_fault hs, exec_dataReceived_of_sync hs, exec_endGoodReceived_of_sync hs,
      exec_endCutReceived_of_sync hs⟩,
    fun hs => ⟨exec_helloReceived_of_run hs, fun hrx => ?noFrame⟩,
    exec_silenceTimerExpiry_stopped, exec_syncTimerExpiry_stopped⟩
  case noFrame =>
    rw [← State.fault_no_frame hrx]
    exact ⟨exec_endGoodReceived_no_frame hs hrx, exec_endCutReceived_no_frame hs hrx⟩

/-- Settles O33, by whether the recovery timer runs and whether a restart is requested or automatic. -/
theorem recoveryEndsInListenOrWaits : Obligations.RecoveryEndsInListenOrWaits :=
  fun _ _ => ⟨exec_recoveryTimerExpiry_listens, exec_recoveryTimerExpiry_waits, exec_recoveryTimerExpiry_stopped⟩

end Sys2Proof.Machine
end

section
/-! PROOFS. Entry to FAULTED (sections 5.6 and 6.7 of the manual): the frame lost and the reserve returned, as a DISABLE
does them too, then the link's part of the fault, then that of its output. -/

namespace Sys2Proof.Machine

set_option Elab.async false

/-! ## The frame lost and the reserve returned -/

/-- The frame in progress on link `p`, if any, gives back its descriptor and chain (R114, R119). -/
def State.dropReceived (s : State) (p : LinkId) : State :=
  match (s.links.get p).rx with
  | none => s
  | some f => s.dropFrame f

theorem State.dropReceived_cases (s : State) (p : LinkId) :
    s.dropReceived p = s ∨ ∃ d, s.dropReceived p = s.freeDesc d := by
  unfold State.dropReceived State.dropFrame
  cases (s.links.get p).rx with
  | none => exact Or.inl rfl
  | some f =>
    cases hd : f.disposition with
    | storing d => exact Or.inr ⟨d, by simp only [hd]⟩
    | sinkingNoDescriptor | sinkingSurplus => exact Or.inl (by simp only [hd])

theorem State.dropReceived_poolLinks (s : State) (p : LinkId) : (s.dropReceived p).pool.links = s.pool.links := by
  rcases s.dropReceived_cases p with h | ⟨d, h⟩ <;> simp [h]

/-- A frame dropped touches the pool and the descriptors alone. -/
theorem State.dropReceived_frame (s : State) (p : LinkId) :
    s.dropReceived p = { s with pool := (s.dropReceived p).pool, descs := (s.dropReceived p).descs } := by
  rcases s.dropReceived_cases p with h | ⟨d, h⟩ <;> rw [h]
  exact s.freeDesc_frame d

theorem State.dropReceived_outs (s : State) (p : LinkId) : (s.dropReceived p).outs = s.outs :=
  (congrArg State.outs (s.dropReceived_frame p)).trans rfl
theorem State.dropReceived_linkOuts (s : State) (p : LinkId) : (s.dropReceived p).linkOuts = s.linkOuts :=
  (congrArg State.linkOuts (s.dropReceived_frame p)).trans rfl
theorem State.dropReceived_links (s : State) (p : LinkId) : (s.dropReceived p).links = s.links :=
  (congrArg State.links (s.dropReceived_frame p)).trans rfl
theorem State.dropReceived_records (s : State) (p : LinkId) : (s.dropReceived p).records = s.records :=
  (congrArg State.records (s.dropReceived_frame p)).trans rfl
theorem State.dropReceived_linkFaults (s : State) (p : LinkId) : (s.dropReceived p).linkFaults = s.linkFaults :=
  (congrArg State.linkFaults (s.dropReceived_frame p)).trans rfl
theorem State.dropReceived_win (s : State) (p : LinkId) : (s.dropReceived p).win = s.win :=
  (congrArg State.win (s.dropReceived_frame p)).trans rfl

/-- The frame lost, the reserve returned and the link port written (R28, R114, R119): what FAULTED and DISABLED begin
with. -/
def State.leave (s : State) (p : LinkId) (l : LinkPort) : State :=
  { s.dropReceived p with
    pool := { (s.dropReceived p).pool with
      freeList := (s.dropReceived p).pool.freeList ++ (s.pool.links.get p).reserve
      links := s.pool.links.set p ⟨[], 0, 0⟩ }
    links := s.links.set p l }

/-- The three steps of R114 and R119 that come first are one change of the state. -/
theorem State.leave_eq (s : State) (p : LinkId) (f : LinkPort → LinkPort) :
    ((s.loseFrame p).returnReserve p).modLink p f = s.leave p (f { s.links.get p with rx := none }) := by
  have hlose : s.loseFrame p = (s.dropReceived p).setLink p { s.links.get p with rx := none } := by
    unfold State.dropReceived
    cases hrx : (s.links.get p).rx with
    | none =>
      have hsame : ({ s.links.get p with rx := none } : LinkPort) = s.links.get p := by rw [← hrx]
      rw [State.loseFrame_none hrx, State.setLink, hsame, PerLink.set_get]
    | some f => exact State.loseFrame_some hrx
  rw [hlose]
  simp only [State.returnReserve, State.modLink, State.setLink, State.appendFree, State.setLinkPool, State.leave,
    State.dropReceived_links, State.dropReceived_poolLinks, PerLink.get_set_self, PerLink.set_set]

/-! ## Entry to FAULTED -/

/-- The link's part of an entry to FAULTED (R114, R115): link port, reserve, record, LINK_FAULTS, LINK_CHANGE. -/
def State.faulted (s : State) (p : LinkId) (kind : FaultKind) (lost : Option (Option Header)) : State :=
  { s.leave p { s.links.get p with
      state := .faulted, restartRequest := decide (kind = .restartReq), txCredit := 0, rx := none,
      silenceTimer := .stopped, syncTimer := .stopped, recoveryTimer := .running 100, endCutOwed := false,
      line := none } with
    records := if kind = .restartReq then s.records else s.records.append (linkFaultRecord p kind lost
      (decide ((s.links.get p).state = .run) && (s.outs.get p.port).departing.isSome))
    linkFaults := s.linkFaults.set p (satAdd (s.linkFaults.get p) 1)
    win := { s.win with linkChange := true } }

/-- The link's part comes first, then, from RUN, that of the output (R90, R114). -/
theorem State.enterFaulted_eq_faulted (s : State) (p : LinkId) (kind : FaultKind) (lost : Option (Option Header)) :
    s.enterFaulted p kind lost =
      if decide ((s.links.get p).state = .run) then (s.faulted p kind lost).outputAtFault p
      else s.faulted p kind lost := by
  unfold State.enterFaulted State.faulted
  rw [State.leave_eq]
  by_cases hkind : kind = .restartReq
  · simp only [hkind, if_true, State.latchLinkChange, State.countLinkFault, State.leave, State.dropReceived_records,
      State.dropReceived_linkFaults, State.dropReceived_win, Config.recoveryUs]
  · simp only [hkind, if_false, State.latchLinkChange, State.countLinkFault, State.record, State.leave,
      State.dropReceived_records, State.dropReceived_linkFaults, State.dropReceived_win, Config.recoveryUs]

/-- The departing copy of link `p`'s output, if any, is cut at a fault and counted as lost (R90). -/
def State.cutAtFault (s : State) (p : LinkId) : State :=
  match (s.outs.get p.port).departing with
  | none => s
  | some dep => (({ s with
      outs := s.outs.set p.port { s.outs.get p.port with departing := none }
      linkOuts := s.linkOuts.set p { s.linkOuts.get p with stallTimer := .stopped } } : State).releaseCopy p.port
        dep.desc).countLost p.port 1

theorem State.outputAtFault_eq_cut (s : State) (p : LinkId) :
    s.outputAtFault p =
      if (s.linkOuts.get p).holdCode = 0 then ((s.cutAtFault p).purgeLost p).setQueueState p .closed .stopped
      else (s.cutAtFault p).setQueueState p .held (timerOfCode (s.linkOuts.get p).holdCode) := by
  unfold State.outputAtFault State.cutAtFault
  cases hdep : (s.outs.get p.port).departing with
  | none => rfl
  | some dep => simp only [State.dropDeparting_of_some hdep]

section

variable {s : State} {p : LinkId}

theorem State.enterFaulted_of_run (hs : (s.links.get p).state = .run) (kind : FaultKind)
    (lost : Option (Option Header)) : s.enterFaulted p kind lost = (s.faulted p kind lost).outputAtFault p := by
  rw [State.enterFaulted_eq_faulted, decide_eq_true hs, if_pos rfl]

/-- A fault from any other state leaves the output as it is. -/
theorem State.enterFaulted_of_not_run (hs : (s.links.get p).state ≠ .run) (kind : FaultKind)
    (lost : Option (Option Header)) : s.enterFaulted p kind lost = s.faulted p kind lost := by
  rw [State.enterFaulted_eq_faulted, decide_eq_false hs, if_neg Bool.false_ne_true]

theorem State.faulted_linkOuts (s : State) (p : LinkId) (kind : FaultKind) (lost : Option (Option Header)) :
    (s.faulted p kind lost).linkOuts = s.linkOuts := s.dropReceived_linkOuts p

/-- A fault from RUN holds the output for the time of its hold code (R90). -/
theorem State.enterFaulted_holds (hs : (s.links.get p).state = .run) (hcode : (s.linkOuts.get p).holdCode ≠ 0)
    (kind : FaultKind) (lost : Option (Option Header)) :
    s.enterFaulted p kind lost = ((s.faulted p kind lost).cutAtFault p).setQueueState p .held
      (.running (timerCodeUs (s.linkOuts.get p).holdCode)) := by
  rw [State.enterFaulted_of_run hs, State.outputAtFault_eq_cut, State.faulted_linkOuts, if_neg hcode, timerOfCode,
    if_neg hcode]

/-- A fault from RUN with hold code 0 purges the output and closes it (R90). -/
theorem State.enterFaulted_purges (hs : (s.links.get p).state = .run) (hcode : (s.linkOuts.get p).holdCode = 0)
    (kind : FaultKind) (lost : Option (Option Header)) :
    s.enterFaulted p kind lost =
      (((s.faulted p kind lost).cutAtFault p).purgeLost p).setQueueState p .closed .stopped := by
  rw [State.enterFaulted_of_run hs, State.outputAtFault_eq_cut, State.faulted_linkOuts, if_pos hcode]

end

/-- Settles O31: what a fault reports lost, by the frame in progress; then the link's part alone from SYNC, and from
RUN with that of the output, by the hold code. -/
theorem enteringFaulted : Obligations.EnteringFaulted := by
  intro s p kind lost l q cut receiver port noCut code
  have hport : s.faulted p kind lost = port := rfl
  have hcut : (s.faulted p kind lost).cutAtFault p = noCut := rfl
  refine ⟨fun hrx => State.fault_no_frame hrx kind, fun f hrx hd => ?surplus, fun f hrx hd => ?inFrame,
    fun hs => ?sync, fun hs hcode => ?holds, fun hs hcode => ?purges⟩
  case surplus => rw [State.fault_in_frame hrx, if_pos hd]
  case inFrame => rw [State.fault_in_frame hrx, if_neg hd]
  case sync => rw [State.enterFaulted_of_not_run fun hrun => LinkState.noConfusion (hs.symm.trans hrun), hport]
  case holds => rw [State.enterFaulted_holds hs hcode, hcut]; rfl
  case purges => rw [State.enterFaulted_purges hs hcode, hcut]; rfl

end Sys2Proof.Machine
end

section
/-! PROOFS. The three actions of LINK_CONTROL (sections 5.7, 6.8 and 8.6 of the manual): what each does to its link,
that none depends on the window, and the results. -/

namespace Sys2Proof.Machine

set_option Elab.async false

/-! ## The window aside: the operations of a link act alike before and after a command is taken -/

theorem State.freeDesc_modWin (s : State) (f : Window → Window) (d : DescId) :
    (s.modWin f).freeDesc d = (s.freeDesc d).modWin f := by
  unfold State.freeDesc
  rw [show (s.modWin f).desc d = s.desc d from rfl]
  cases s.desc d <;> rfl

theorem State.dropReceived_modWin (s : State) (f : Window → Window) (p : LinkId) :
    (s.modWin f).dropReceived p = (s.dropReceived p).modWin f := by
  unfold State.dropReceived State.dropFrame
  rw [show ((s.modWin f).links.get p).rx = (s.links.get p).rx from rfl]
  cases (s.links.get p).rx with
  | none => rfl
  | some g =>
    cases hd : g.disposition with
    | storing d => simp only [hd, State.freeDesc_modWin]
    | sinkingNoDescriptor | sinkingSurplus => simp only [hd]

theorem State.leave_modWin (s : State) (f : Window → Window) (p : LinkId) (l : LinkPort) :
    (s.modWin f).leave p l = (s.leave p l).modWin f := by
  unfold State.leave
  rw [State.dropReceived_modWin]
  rfl

theorem State.cutAtFault_modWin (s : State) (f : Window → Window) (p : LinkId) :
    (s.modWin f).cutAtFault p = (s.cutAtFault p).modWin f := by
  unfold State.cutAtFault
  rw [show ((s.modWin f).outs.get p.port).departing = (s.outs.get p.port).departing from rfl]
  cases (s.outs.get p.port).departing with
  | none => rfl
  | some dep =>
    exact congrArg (State.countLost · p.port 1)
      (State.releaseCopy_modWin ((s.clearSlot p.port).stopStall p) f p.port dep.desc)

theorem State.dropDeparting_modWin (s : State) (f : Window → Window) (p : LinkId) :
    (s.modWin f).dropDeparting p = (s.dropDeparting p).modWin f := by
  unfold State.dropDeparting
  rw [show ((s.modWin f).outs.get p.port).departing = (s.outs.get p.port).departing from rfl]
  cases (s.outs.get p.port).departing with
  | none => rfl
  | some dep => exact State.releaseCopy_modWin ((s.clearSlot p.port).stopStall p) f p.port dep.desc

theorem State.purgeLost_modWin (s : State) (f : Window → Window) (p : LinkId) :
    (s.modWin f).purgeLost p = (s.purgeLost p).modWin f := by
  by_cases hn : (s.outs.get p.port).queued.length = 0
  · simp only [State.purgeLost, State.modWin_outs, State.purge_modWin, hn, if_true]
  · simp only [State.purgeLost, State.modWin_outs, State.purge_modWin, hn, if_false]
    rfl

theorem State.outputAtFault_modWin (s : State) (f : Window → Window) (p : LinkId) :
    (s.modWin f).outputAtFault p = (s.outputAtFault p).modWin f := by
  rw [State.outputAtFault_eq_cut, State.outputAtFault_eq_cut, State.cutAtFault_modWin, State.purgeLost_modWin]
  by_cases hcode : (s.linkOuts.get p).holdCode = 0
  · simp only [State.modWin_linkOuts, hcode, if_true]
    rfl
  · simp only [State.modWin_linkOuts, hcode, if_false]
    rfl

/-- A fault latches LINK_CHANGE, which the taking of a command leaves alone. -/
theorem State.fault_take (s : State) (p : LinkId) (kind : FaultKind) :
    s.take.fault p kind = (s.fault p kind).take := by
  have hfaulted (lost : Option (Option Header)) : s.take.faulted p kind lost = (s.faulted p kind lost).take := by
    unfold State.faulted State.take
    rw [State.leave_modWin]
    rfl
  unfold State.fault
  by_cases hrun : (s.links.get p).state = .run
  · rw [State.enterFaulted_of_run hrun, State.enterFaulted_of_run (s := s.take) hrun, hfaulted]
    exact State.outputAtFault_modWin _ _ p
  · rw [State.enterFaulted_of_not_run hrun, State.enterFaulted_of_not_run (s := s.take) hrun, hfaulted]
    rfl

theorem State.enableLink_take (s : State) (p : LinkId) : s.take.enableLink p = (s.enableLink p).take := by
  unfold State.enableLink
  simp only [State.take_links]
  cases (s.links.get p).state with
  | disabled | listen | sync | run => rfl
  | faulted => cases (s.links.get p).recoveryTimer <;> rfl

/-! ## A LINK_CONTROL taken -/

theorem actionOfWord_none {w : Word} (h : w = 0 ∨ 4 ≤ w.toNat) : actionOfWord w = none := by
  rcases h with rfl | h
  · rfl
  · obtain ⟨k, hk⟩ := Nat.exists_eq_add_of_le' h
    rw [actionOfWord, hk]
    rfl

/-- The results of a LINK_CONTROL that succeeds on a command just taken (R152). -/
theorem State.take_endLinkControl (t : State) (p : LinkId) (n : Nat) (lost : Bool) :
    t.take.endLinkControl p n lost =
      t.afterCommand .ok (results (linkStateValue (t.links.get p).state) n (yesNo lost) 0) := rfl

section Taken

variable {c : Instr} {s : State} {p : LinkId}

/-- The three rows are one bus write (R152, notes/assumptions/7.md). -/
theorem exec_linkControl_of_ready (hc : c ∈ [Instr.enable, .disable, .restart]) (h : HostReady s) :
    exec c s = .next s.take.runLinkControl := by
  have hrow : exec c s = .next (s.commandWrite State.runLinkControl) := by
    simp only [List.mem_cons, List.not_mem_nil, or_false] at hc
    rcases hc with rfl | rfl | rfl <;> rfl
  rw [hrow, State.commandWrite_ready h]

theorem exec_linkControl_refused (hc : c ∈ [Instr.enable, .disable, .restart]) (h : HostReady s)
    (hbad : linkOfWord s.win.params.w0 = none ∨ actionOfWord s.win.params.w1 = none) :
    exec c s = .next (s.afterCommand .badParam ⟨0, 0, 0, 0⟩) := by
  rw [exec_linkControl_of_ready hc h, State.runLinkControl]
  rcases hbad with hlink | haction
  · simp only [State.take_win, hlink]
    rfl
  · simp only [State.take_win, haction]
    cases linkOfWord s.win.params.w0 <;> rfl

theorem exec_linkControl_enable (hc : c ∈ [Instr.enable, .disable, .restart]) (h : HostReady s)
    (hp : s.win.params.w0.toNat = p.num) (hw : s.win.params.w1 = 1) :
    exec c s = .next (s.take.runEnable p) := by
  rw [exec_linkControl_of_ready hc h, State.runLinkControl]
  simp only [State.take_win, linkOfWord_num hp, hw]
  rfl

theorem exec_linkControl_disable (hc : c ∈ [Instr.enable, .disable, .restart]) (h : HostReady s)
    (hp : s.win.params.w0.toNat = p.num) (hw : s.win.params.w1 = 2) :
    exec c s = .next (s.take.runDisable p) := by
  rw [exec_linkControl_of_ready hc h, State.runLinkControl]
  simp only [State.take_win, linkOfWord_num hp, hw]
  rfl

theorem exec_linkControl_restart (hc : c ∈ [Instr.enable, .disable, .restart]) (h : HostReady s)
    (hp : s.win.params.w0.toNat = p.num) (hw : s.win.params.w1 = 3) :
    exec c s = .next (s.take.runRestart p) := by
  rw [exec_linkControl_of_ready hc h, State.runLinkControl]
  simp only [State.take_win, linkOfWord_num hp, hw]
  rfl

end Taken

/-! ## What the results say -/

/-- The frame that an event loses is the one in progress, unless it is sinking surplus (R115, R152). -/
theorem lostFrame_isSome {rx : Option RxFrame} :
    (lostFrame rx).isSome = true ↔ ∃ f, rx = some f ∧ f.disposition ≠ .sinkingSurplus := by
  cases rx with
  | none => simp
  | some f => by_cases hd : f.disposition = .sinkingSurplus <;> simp [lostFrame_some, hd]

/-- A yes or no in a result word. -/
theorem word_yesNo {b : Bool} {P : Prop} (h : b = true ↔ P) :
    (P → BitVec.ofNat 16 (yesNo b) = 1) ∧ (¬ P → BitVec.ofNat 16 (yesNo b) = 0) := by
  rw [← h]
  cases b <;> simp [yesNo]

/-! ## ENABLE and RESTART -/

section Actions

variable {s : State} {p : LinkId}

theorem State.enableLink_of_disabled (hs : (s.links.get p).state = .disabled) :
    s.enableLink p = s.enterListen p := by
  simp only [State.enableLink, hs]

theorem State.enableLink_of_up (hs : (s.links.get p).state = .listen ∨ (s.links.get p).state = .sync ∨
    (s.links.get p).state = .run) : s.enableLink p = s := by
  rcases hs with h | h | h <;> simp only [State.enableLink, h]

theorem State.enableLink_in_recovery (hs : (s.links.get p).state = .faulted)
    (ht : (s.links.get p).recoveryTimer ≠ .stopped) :
    s.enableLink p = s.modLink p fun l => { l with restartRequest := true } := by
  cases hr : (s.links.get p).recoveryTimer with
  | stopped => exact absurd hr ht
  | running us => simp only [State.enableLink, hs, hr]

theorem State.enableLink_recovered (hs : (s.links.get p).state = .faulted)
    (ht : (s.links.get p).recoveryTimer = .stopped) : s.enableLink p = s.enterListen p := by
  simp only [State.enableLink, hs, ht]

theorem State.enterListen_state : ((s.enterListen p).links.get p).state = .listen := by
  simp [State.enterListen]

/-- ENABLE succeeds in every state, with the link's state after it as its one result (R117, R152). -/
theorem State.take_runEnable {u : State} {st : LinkState} (hu : s.enableLink p = u)
    (hst : (u.links.get p).state = st) :
    s.take.runEnable p = u.afterCommand .ok ⟨BitVec.ofNat 16 (linkStateValue st), 0, 0, 0⟩ := by
  rw [State.runEnable, State.enableLink_take, State.take_endLinkControl, hu, hst]
  rfl

theorem State.runRestart_of_disabled (hs : (s.links.get p).state = .disabled) :
    s.runRestart p = s.endPlain .badState := by
  simp only [State.runRestart, hs]

/-- In LISTEN and FAULTED a RESTART acts as ENABLE (R118). -/
theorem State.runRestart_enables (hs : (s.links.get p).state = .listen ∨ (s.links.get p).state = .faulted) :
    s.runRestart p = s.runEnable p := by
  rcases hs with h | h <;> simp only [State.runRestart, State.restartLink, State.runEnable, h]
  rw [State.enableLink_of_up (Or.inl h)]

/-- A RESTART from SYNC or RUN is a fault; only a link in RUN has a copy to cut (R118). -/
theorem State.runRestart_faults (hs : (s.links.get p).state = .sync ∨ (s.links.get p).state = .run) :
    s.runRestart p = (s.fault p .restartReq).endLinkControl p
      (yesNo (decide ((s.links.get p).state = .run) && (s.outs.get p.port).departing.isSome))
      (lostFrame (s.links.get p).rx).isSome := by
  rcases hs with h | h <;> simp only [State.runRestart, State.restartLink, h] <;> rfl

theorem State.fault_state (s : State) (p : LinkId) (kind : FaultKind) :
    ((s.fault p kind).links.get p).state = .faulted := by
  have hfaulted (lost : Option (Option Header)) : ((s.faulted p kind lost).links.get p).state = .faulted := by
    simp [State.faulted, State.leave]
  rw [State.fault, State.enterFaulted_eq_faulted]
  split
  · rw [State.outputAtFault_links, hfaulted]
  · exact hfaulted _

theorem State.take_runRestart_faults (hs : (s.links.get p).state = .sync ∨ (s.links.get p).state = .run) :
    s.take.runRestart p = (s.fault p .restartReq).afterCommand .ok
      ⟨4, BitVec.ofNat 16
          (yesNo (decide ((s.links.get p).state = .run) && (s.outs.get p.port).departing.isSome)),
        BitVec.ofNat 16 (yesNo (lostFrame (s.links.get p).rx).isSome), 0⟩ := by
  rw [State.runRestart_faults (s := s.take) hs, State.fault_take, State.take_endLinkControl, State.fault_state]
  rfl

end Actions

/-- Settles O46: the checks, then ENABLE and RESTART by the state of the link. -/
theorem enableAndRestart : Obligations.EnableAndRestart := by
  refine fun c s hc h => ⟨fun hbad => ?refused, fun p hp => ?_⟩
  case refused =>
    exact exec_linkControl_refused hc h ((or_assoc.2 hbad).imp linkOfWord_none actionOfWord_none)
  intro l listen requested lost
  have henable (hw : s.win.params.w1 = 1) {u : State} {st : LinkState} (hu : s.enableLink p = u)
      (hst : (u.links.get p).state = st) :
      exec c s = .next (u.afterCommand .ok ⟨BitVec.ofNat 16 (linkStateValue st), 0, 0, 0⟩) := by
    rw [exec_linkControl_enable hc h hp hw, State.take_runEnable hu hst]
  have hboth (hw : s.win.params.w1 = 1 ∨ s.win.params.w1 = 3) (hs : l.state = .listen ∨ l.state = .faulted)
      {u : State} {st : LinkState} (hu : s.enableLink p = u) (hst : (u.links.get p).state = st) :
      exec c s = .next (u.afterCommand .ok ⟨BitVec.ofNat 16 (linkStateValue st), 0, 0, 0⟩) := by
    refine hw.elim (fun hw => henable hw hu hst) fun hw => ?_
    rw [exec_linkControl_restart hc h hp hw, State.runRestart_enables (s := s.take) hs, State.take_runEnable hu hst]
  have hlisten : (listen.links.get p).state = .listen := State.enterListen_state (s := s)
  refine ⟨fun hw => ⟨fun hs ht => ?requested, fun hs ht => ?recovered, fun hs => ?listening⟩,
    fun hw => ⟨fun hs => ?started, fun hs => ?sync, fun hs => ?run⟩,
    fun hw => ⟨fun hs => ?badState, fun hs => ?faults⟩⟩
  case requested =>
    exact hboth hw (Or.inr hs) (State.enableLink_in_recovery hs ht) (st := .faulted)
      ((congrArg LinkPort.state (PerLink.get_set_self ..)).trans hs)
  case recovered => exact hboth hw (Or.inr hs) (State.enableLink_recovered hs ht) hlisten
  case listening => exact hboth hw (Or.inl hs) (State.enableLink_of_up (Or.inl hs)) hs
  case started => exact henable hw (State.enableLink_of_disabled hs) hlisten
  case sync => exact henable hw (State.enableLink_of_up (Or.inr (Or.inl hs))) hs
  case run => exact henable hw (State.enableLink_of_up (Or.inr (Or.inr hs))) hs
  case badState =>
    rw [exec_linkControl_restart hc h hp hw, State.runRestart_of_disabled (s := s.take) hs]
    rfl
  case faults =>
    have hcut : (decide (l.state = .run) && (s.outs.get p.port).departing.isSome) = true ↔
        l.state = .run ∧ (s.outs.get p.port).departing ≠ none := by
      simp [Option.isSome_iff_ne_none]
    obtain ⟨hreleased, hnone⟩ := word_yesNo hcut
    obtain ⟨hflag, hnoFlag⟩ := word_yesNo (lostFrame_isSome (rx := l.rx))
    refine ⟨_, _, (exec_linkControl_restart hc h hp hw).trans (congrArg _ (State.take_runRestart_faults hs)),
      hreleased, fun hno => hnone fun hyes => ?_, hflag, hnoFlag⟩
    exact hno.elim (fun hsync => by simp [hyes.1] at hsync) hyes.2

/-! ## DISABLE -/

/-- A DISABLE of a link in RUN sends END_CUT for the copy it cuts, when a DATA character of it had gone, or for one
cut before (R93, R111). -/
def State.endCutDue (s : State) (p : LinkId) : Bool :=
  decide ((s.links.get p).state = .run) && ((s.links.get p).endCutOwed || s.departureStarted p)

theorem State.endCutDue_iff {s : State} {p : LinkId} : s.endCutDue p = true ↔ (s.links.get p).state = .run ∧
    ((s.links.get p).endCutOwed = true ∨ ∃ dep, (s.outs.get p.port).departing = some dep ∧ 0 < dep.position) := by
  have hstarted : s.departureStarted p = true ↔
      ∃ dep, (s.outs.get p.port).departing = some dep ∧ 0 < dep.position := by
    unfold State.departureStarted
    cases (s.outs.get p.port).departing <;> simp
  simp only [State.endCutDue, Bool.and_eq_true, decide_eq_true_eq, Bool.or_eq_true, hstarted]

/-- The link's part of a DISABLE (R28, R119). -/
def State.closing (s : State) (p : LinkId) : State :=
  { s.leave p ((s.links.get p).closed (if s.endCutDue p then some .endCut else none)) with
    win := { s.win with linkChange := s.win.linkChange || decide ((s.links.get p).state = .run) } }

/-- The link's part comes first, then that of the output (R93, R119). -/
theorem State.closeLink_eq_closing (s : State) (p : LinkId) :
    s.closeLink p =
      ((((s.closing p).dropDeparting p).purge p.port).countLost p.port (s.copiesAt p.port)).setQueueState p
        .closed .stopped := by
  have hwin : (s.dropReceived p).win = s.win := s.dropReceived_win p
  by_cases hrun : (s.links.get p).state = .run
  · simp only [State.closeLink, State.closing, State.endCutDue, State.leave_eq, hrun, decide_true, if_true,
      Bool.or_true, State.latchLinkChange, State.leave, hwin, LinkPort.closed]
  · simp only [State.closeLink, State.closing, State.endCutDue, State.leave_eq, hrun, decide_false, Bool.false_eq_true,
      if_false, Bool.or_false, State.leave, ← hwin, LinkPort.closed]

/-- The output's slot is still that of before when its copy is cut. -/
theorem State.closing_dropDeparting (s : State) (p : LinkId) :
    (s.closing p).dropDeparting p = match (s.outs.get p.port).departing with
      | none => s.closing p
      | some dep => ({ s.closing p with
          outs := s.outs.set p.port { s.outs.get p.port with departing := none }
          linkOuts := s.linkOuts.set p { s.linkOuts.get p with stallTimer := .stopped } } : State).releaseCopy
            p.port dep.desc := by
  have houts : (s.closing p).outs = s.outs := s.dropReceived_outs p
  have hlinkOuts : (s.closing p).linkOuts = s.linkOuts := s.dropReceived_linkOuts p
  cases hdep : (s.outs.get p.port).departing with
  | none => exact State.dropDeparting_of_none (by rw [houts, hdep])
  | some dep => rw [State.dropDeparting_of_some (dep := dep) (by rw [houts, hdep]), houts, hlinkOuts]

theorem State.closeLink_take (s : State) (p : LinkId) : s.take.closeLink p = (s.closeLink p).take := by
  have hclosing : s.take.closing p = (s.closing p).take := by
    unfold State.closing State.take
    rw [State.leave_modWin]
    rfl
  have hdrop : (s.closing p).take.dropDeparting p = ((s.closing p).dropDeparting p).take :=
    State.dropDeparting_modWin _ _ p
  have hpurge (u : State) : u.take.purge p.port = (u.purge p.port).take := u.purge_modWin _ p.port
  rw [State.closeLink_eq_closing, State.closeLink_eq_closing, hclosing, hdrop, hpurge]
  rfl

theorem State.closeLink_state (s : State) (p : LinkId) : ((s.closeLink p).links.get p).state = .disabled := by
  have hlinks : (s.closing p).links = s.links.set p
      ((s.links.get p).closed (if s.endCutDue p then some .endCut else none)) := rfl
  rw [State.closeLink_eq_closing]
  simp [hlinks, LinkPort.closed]

theorem State.runDisable_of_disabled {s : State} {p : LinkId} (hs : (s.links.get p).state = .disabled) :
    s.runDisable p = s.endLinkControl p 0 false := by
  simp only [State.runDisable, State.disableLink, hs]

theorem State.runDisable_closes {s : State} {p : LinkId} (hs : (s.links.get p).state ≠ .disabled) :
    s.runDisable p =
      (s.closeLink p).endLinkControl p (s.copiesAt p.port) (lostFrame (s.links.get p).rx).isSome := by
  cases hst : (s.links.get p).state with
  | disabled => exact absurd hst hs
  | listen | sync | run | faulted => simp only [State.runDisable, State.disableLink, hst]

/-- DISABLE of a link that is not DISABLED closes it and returns the number of copies released (R93, R152). -/
theorem State.take_runDisable {s : State} {p : LinkId} (hs : (s.links.get p).state ≠ .disabled) :
    s.take.runDisable p = (s.closeLink p).afterCommand .ok
      ⟨0, BitVec.ofNat 16 (s.copiesAt p.port), BitVec.ofNat 16 (yesNo (lostFrame (s.links.get p).rx).isSome), 0⟩ := by
  rw [State.runDisable_closes (s := s.take) hs, State.closeLink_take, State.take_endLinkControl, State.closeLink_state]
  rfl

/-- Settles O47: nothing in DISABLED; from every other state the link's part, the cut, the purge and the results. -/
theorem disableClosesALink : Obligations.DisableClosesALink := by
  intro c s p hc h hp hw l o lost n endCut receiver
  refine ⟨fun hs => ?disabled, fun hs => ?closes⟩
  case disabled =>
    rw [exec_linkControl_disable hc h hp hw, State.runDisable_of_disabled (s := s.take) hs, State.take_endLinkControl,
      show (s.links.get p).state = .disabled from hs]
    rfl
  case closes =>
    have hn : s.copiesAt p.port = n := by
      simp only [State.copiesAt, Output.queued, List.length_append, n, o]
      cases (s.outs.get p.port).departing <;> rfl
    have hexec := exec_linkControl_disable hc h hp hw
    rw [State.take_runDisable hs, State.closeLink_eq_closing, State.closing_dropDeparting, hn] at hexec
    obtain ⟨hflag, hnoFlag⟩ := word_yesNo (lostFrame_isSome (rx := l.rx))
    exact ⟨if s.endCutDue p then some .endCut else none, _, fun hend => if_pos (State.endCutDue_iff.2 hend),
      fun hend => if_neg fun hdue => hend (State.endCutDue_iff.1 hdue), hflag, hnoFlag, hexec⟩

end Sys2Proof.Machine
end

section
/-! PROOFS. The Host Window: the words it shows, the register accesses, the resets, the two data phases and ABORT
(chapter 7 and section 8.4 of the manual). -/

namespace Sys2Proof.Machine

set_option Elab.async false

/-! ## The levels, the engine's flags and the code values -/

theorem Engine.rdy_iff {e : Engine} : e.rdy = true ↔ e ≠ .initialising := by
  cases e <;> simp [Engine.rdy]

theorem Engine.busy_iff {e : Engine} : e.busy = true ↔ e ≠ .idle ∧ e.xreq = false := by
  cases e <;> simp [Engine.busy, Engine.xreq]

theorem codeValue_le (c : Code) : codeValue c ≤ 26 := by cases c <;> decide

theorem linkStateValue_le (l : LinkState) : linkStateValue l ≤ 4 := by cases l <;> decide

section Words
variable {s : State}

theorem State.hostq_iff : s.hostq = true ↔ s.outs.p0.express ≠ [] ∨ s.outs.p0.standard ≠ [] := by
  rw [State.hostq, Bool.not_eq_true', Bool.and_eq_false_iff, List.isEmpty_eq_false_iff, List.isEmpty_eq_false_iff]

theorem State.recordsLevel_iff : s.recordsLevel = true ↔ s.records.list ≠ [] := by
  rw [State.recordsLevel, Bool.not_eq_true', List.isEmpty_eq_false_iff]

/-! ## STATUS, IRQ_CAUSE, IRQ# and LINKSTATE -/

/-- The bits that a word made of named bits shows, as a list of cases. -/
theorem wordOfBits_bit_iff {bits : List (Nat × Bool)} (h : ∀ b ∈ bits, b.1 < 16) (i : Nat) :
    (wordOfBits bits).getLsbD i = true ↔ ∃ b ∈ bits, i = b.1 ∧ b.2 = true := by
  rw [wordOfBits_getLsbD bits i h, List.any_eq_true]
  simp only [Bool.and_eq_true, decide_eq_true_eq]
  exact exists_congr fun b => and_congr_right fun _ => and_comm.trans (and_congr_left' eq_comm)

theorem State.statusWord_bit_iff (i : Nat) : s.statusWord.getLsbD i = true ↔
    (i = 0 ∧ s.win.engine ≠ .initialising) ∨ (i = 1 ∧ s.win.engine ≠ .idle ∧ s.win.engine.xreq = false) ∨
    (i = 2 ∧ s.win.engine.xreq = true) ∨ (i = 3 ∧ s.win.error ≠ .ok) ∨ (i = 4 ∧ s.win.overrun = true) ∨
    (i = 8 ∧ (s.outs.p0.express ≠ [] ∨ s.outs.p0.standard ≠ [])) ∨ (i = 9 ∧ s.records.list ≠ []) ∨
    (i = 10 ∧ s.pool.freeList.length < s.pool.floor) := by
  rw [State.statusWord, wordOfBits_bit_iff (by simp)]
  simp only [List.exists_mem_cons_iff, List.not_mem_nil, false_and, exists_false, or_false, Engine.rdy_iff,
    Engine.busy_iff, decide_eq_true_eq, State.hostq_iff, State.recordsLevel_iff, State.poolLow_iff]

theorem State.causeWord_bit_iff (i : Nat) : s.causeWord.getLsbD i = true ↔
    (i = 0 ∧ s.win.cmdDone = true) ∨ (i = 1 ∧ s.win.dataReq = true) ∨ (i = 2 ∧ s.win.linkChange = true) ∨
    (i = 8 ∧ (s.outs.p0.express ≠ [] ∨ s.outs.p0.standard ≠ [])) ∨ (i = 9 ∧ s.records.list ≠ []) ∨
    (i = 10 ∧ s.pool.freeList.length < s.pool.floor) := by
  rw [State.causeWord, wordOfBits_bit_iff (by simp)]
  simp only [List.exists_mem_cons_iff, List.not_mem_nil, false_and, exists_false, or_false, State.hostq_iff,
    State.recordsLevel_iff, State.poolLow_iff]

/-- Two words share a set bit exactly when their conjunction is not zero. -/
theorem word_and_ne_zero_iff {n : Nat} {v w : BitVec n} :
    v &&& w ≠ 0 ↔ ∃ i, v.getLsbD i = true ∧ w.getLsbD i = true := by
  constructor
  · intro hne
    by_contra hnone
    refine hne (BitVec.eq_of_getLsbD_eq fun i _ => ?_)
    rw [BitVec.getLsbD_and, BitVec.ofNat_eq_ofNat, BitVec.getLsbD_zero, Bool.and_eq_false_imp]
    exact fun hv => Bool.eq_false_iff.2 fun hw => hnone ⟨i, hv, hw⟩
  · rintro ⟨i, hv, hw⟩ hzero
    have hbit := congrArg (·.getLsbD i) hzero
    simp [BitVec.getLsbD_and, hv, hw] at hbit

theorem State.irqLow_iff : s.irqLow = true ↔ s.win.resetApplied = false ∧ s.win.masterEnable = true ∧
    ∃ i, s.causeWord.getLsbD i = true ∧ s.win.irqEnable.getLsbD i = true := by
  rw [State.irqLow, Bool.and_eq_true, Bool.and_eq_true, Bool.not_eq_true', decide_eq_true_eq, word_and_ne_zero_iff,
    and_assoc]

/-- Three fields of five bits, read back from the number they make. -/
theorem fields_of_sum {a b c : Nat} (ha : a < 32) (hb : b < 32) (hc : c < 32) :
    let n := a + 32 * b + 1024 * c
    n / 2 ^ 0 % 32 = a ∧ n / 2 ^ 5 % 32 = b ∧ n / 2 ^ 10 % 32 = c ∧ n < 2 ^ 15 := by
  simp only [Nat.reducePow]
  omega

/-- Each field of LINKSTATE is at most 24, so the three do not overlap and bit 15 is free (R180). -/
theorem State.linkStateWord_fields (s : State) :
    let field (k : Nat) : Nat := s.linkStateWord.toNat / 2 ^ k % 32
    let v (p : LinkId) : Nat := linkStateValue (s.links.get p).state
    field 0 = 5 * v .l1 + v .l2 ∧ field 5 = 5 * v .l3 + v .l4 ∧ field 10 = 5 * v .l5 + v .l6 ∧
      s.linkStateWord.getLsbD 15 = false := by
  intro field v
  have hpair (p q : LinkId) : 5 * v p + v q < 32 := by
    have hp : v p ≤ 4 := linkStateValue_le _
    have hq : v q ≤ 4 := linkStateValue_le _
    omega
  obtain ⟨h0, h5, h10, hlt⟩ := fields_of_sum (hpair .l1 .l2) (hpair .l3 .l4) (hpair .l5 .l6)
  have hword : s.linkStateWord.toNat =
      (5 * v .l1 + v .l2) + 32 * (5 * v .l3 + v .l4) + 1024 * (5 * v .l5 + v .l6) :=
    (BitVec.toNat_ofNat ..).trans (Nat.mod_eq_of_lt (hlt.trans (by decide)))
  simp only [field, hword]
  refine ⟨h0, h5, h10, ?_⟩
  rw [← BitVec.testBit_toNat, hword]
  exact Nat.testBit_lt_two_pow hlt

/-! ## What a read strobe returns -/

/-- While a hard reset is applied every register but LINKSTATE and ID reads 0 (R140). -/
theorem State.readRegister_applied (ha : s.win.resetApplied = true) {a : BitVec 4} (h14 : a ≠ 14#4)
    (h15 : a ≠ 15#4) : s.readRegister a = 0 := by
  have hne {n : Nat} (hn : n < 16) (h : a ≠ BitVec.ofNat 4 n) : a.toNat ≠ n := fun hv =>
    h (BitVec.eq_of_toNat_eq (by rw [hv, BitVec.toNat_ofNat, Nat.mod_eq_of_lt hn]))
  unfold State.readRegister
  split
  · rename_i hv; exact absurd hv (hne (by decide) h14)
  · rename_i hv; exact absurd hv (hne (by decide) h15)
  · exact if_pos ha

/-- With no reset applied the ERROR register shows the value of its code. -/
theorem State.readRegister_error (ha : s.win.resetApplied = false) :
    (s.readRegister 1#4).toNat = codeValue s.win.error := by
  have hread : s.readRegister 1#4 = BitVec.ofNat 16 (codeValue s.win.error) :=
    if_neg (Bool.eq_false_iff.1 ha)
  have hle := codeValue_le s.win.error
  rw [hread, BitVec.toNat_ofNat, Nat.mod_eq_of_lt (by omega)]

end Words

/-- Settles O8: the two words bit by bit, LINKSTATE as a number, and the registers one by one. -/
theorem windowWordsShowTheState : Obligations.WindowWordsShowTheState := by
  refine ⟨rfl, rfl, rfl, fun s => ⟨State.statusWord_bit_iff, State.causeWord_bit_iff, State.irqLow_iff,
    s.linkStateWord_fields, fun ha a => State.readRegister_applied ha, ⟨rfl, rfl⟩, fun ha => ?registers⟩⟩
  have hoff : ¬ s.win.resetApplied = true := Bool.eq_false_iff.1 ha
  exact ⟨if_neg hoff, State.readRegister_error ha, if_neg hoff, if_neg hoff, if_neg hoff, if_neg hoff, if_neg hoff,
    if_neg hoff, if_neg hoff, if_neg hoff, if_neg hoff, if_neg hoff, if_neg hoff⟩

/-! ## Resets, register writes and the end of initialisation -/

/-- Settles O4: the two resets' ends by whether a reset is applied and by the engine's state. -/
theorem hardResetReleaseAndInitialisationEnd : Obligations.HardResetReleaseAndInitialisationEnd := by
  intro s
  refine ⟨?hard, fun ha => ?release, fun ha => ?noRelease, fun ha he => ?ends, fun h => ?noEnd⟩
  case hard => simp only [exec, execHardReset, State.hardResetValues, State.modWin, State.reset]
  case release | noRelease => simp only [exec, execResetRelease, ha]; rfl
  case ends =>
    simp only [exec, execInitialisationEnd, if_neg (Bool.eq_false_iff.1 ha), he]
    rfl
  case noEnd =>
    rcases h with ha | he
    · simp only [exec, execInitialisationEnd, ha, if_true]
    · simp only [exec, execInitialisationEnd]
      split
      · rfl
      · cases hs : s.win.engine with
        | initialising => exact absurd hs he
        | idle | executingSend | executingClear | writePhase | readPhase => rfl

/-- The enable flags and the causes stand at the same six places (R180). -/
theorem causeMask_getLsbD (i : Nat) : causeMask.getLsbD i = decide (i ∈ [0, 1, 2, 8, 9, 10]) := by
  have hmask : causeMask = wordOfBits [(0, true), (1, true), (2, true), (8, true), (9, true), (10, true)] := by decide
  rw [hmask, Bool.eq_iff_iff, wordOfBits_bit_iff (by simp)]
  simp

section Writes
variable {s : State} (ha : s.win.resetApplied = false)
include ha

theorem State.controlWrite_request {w : Word} (hw : w.getLsbD 15 = true) : s.controlWrite w = s.softResetValues := by
  simp only [State.controlWrite, ha, hw, Bool.false_eq_true, if_false, if_true]

theorem State.controlWrite_no_request {w : Word} (hw : w.getLsbD 15 = false) :
    s.controlWrite w = s.modWin fun v => { v with masterEnable := w.getLsbD 0 } := by
  simp only [State.controlWrite, ha, hw, Bool.false_eq_true, if_false]

end Writes

/-- What a soft reset leaves of an output and of a link output (R138). -/
theorem State.softResetValues_outs (s : State) (p : Port) :
    s.softResetValues.outs.get p = { Output.reset with yieldCount := (s.outs.get p).yieldCount } := by
  cases p <;> rfl

theorem State.softResetValues_linkOuts (s : State) (p : LinkId) : s.softResetValues.linkOuts.get p =
    { s.linkOuts.get p with queueState := .closed, holdTimer := .stopped, stallTimer := .stopped } := by
  cases p <;> rfl

/-- The rest is as after a hard reset, but for what R138 names. -/
theorem State.softResetValues_eq (s : State) : s.softResetValues = { State.reset with
    cells := s.cells
    pending := s.pending
    pool := { Pool.reset with
      floor := s.pool.floor, advance := s.pool.advance, holdLimit := s.pool.holdLimit }
    table := s.table
    outs := s.softResetValues.outs
    linkOuts := s.softResetValues.linkOuts
    win := { Window.reset with irqEnable := s.win.irqEnable, masterEnable := s.win.masterEnable } } := by
  simp only [State.softResetValues, State.hardResetValues, State.reset]

/-- Settles O5, register by register. -/
theorem controlRegisterAndCauseWrites : Obligations.ControlRegisterAndCauseWrites := by
  intro s w ha
  have write {t : State} : Host.Outcome.next (if s.win.resetApplied then s else t) = (.next t : Answer) :=
    congrArg _ (if_neg (Bool.eq_false_iff.1 ha))
  refine ⟨fun hw => ⟨s.softResetValues, congrArg Host.Outcome.next (State.controlWrite_request ha hw),
      s.softResetValues_eq, s.softResetValues_outs, s.softResetValues_linkOuts⟩,
    fun hw => congrArg Host.Outcome.next (State.controlWrite_no_request ha hw), write, write, write, write,
    ⟨w &&& causeMask, write, fun i => by rw [BitVec.getLsbD_and, causeMask_getLsbD]⟩, fun r hr => ?ignored, write⟩
  case ignored =>
    cases r with
    | error | result0 | result1 | result2 | result3 | linkState | id => exact write
    | param0 | param1 | param2 | param3 | irqEnable => simp at hr

/-! ## Writes that are not taken -/

/-- Every COMMAND write but ABORT goes through the same test before its command runs (R128). -/
theorem exec_of_commandWrite {c : Instr} (hc : isCommandWrite c = true) (hne : c ≠ .abort) :
    ∃ run : State → State, ∀ s, exec c s = .next (s.commandWrite run) := by
  cases c with
  | send | recv | skip | tableWrite | tableRead | enable | disable | restart | portConfig | portFlush | readPort
  | setPool | readPool | readCounter | clearCounters | takeRecord | clearSwitch | badCommand =>
    exact ⟨_, fun s => rfl⟩
  | abort => exact absurd rfl hne
  | _ => cases hc

/-- So does an ABORT outside a data phase, and while a hard reset is applied. -/
theorem exec_abort_commandWrite {s : State} (h : s.win.engine.xreq = false ∨ s.win.resetApplied = true) :
    exec .abort s = .next (s.commandWrite fun t => t.endPlain .noTransfer) := by
  rcases h with h | h <;> simp [exec, execAbort, h]

theorem exec_abort_phase {s : State} (hx : s.win.engine.xreq = true) (ha : s.win.resetApplied = false) :
    exec .abort s = .next s.abortPhase := by
  simp [exec, execAbort, hx, ha]

theorem State.commandWrite_applied {s : State} (ha : s.win.resetApplied = true) (run : State → State) :
    s.commandWrite run = s :=
  if_pos ha

/-- A COMMAND write outside IDLE is discarded with OVERRUN (R128). -/
theorem State.commandWrite_discarded {s : State} (ha : s.win.resetApplied = false) (he : s.win.engine ≠ .idle)
    (run : State → State) : s.commandWrite run = s.modWin fun w => { w with overrun := true } := by
  rcases s.commandWrite_cases run with ⟨h, -⟩ | ⟨⟨-, h⟩, -⟩ | ⟨-, -, h⟩
  · rw [ha] at h; cases h
  · exact absurd h he
  · exact h

/-- Settles O6: the COMMAND writes by the shared test, the other writes one by one. -/
theorem writesNotTaken : Obligations.WritesNotTaken := by
  refine fun s => ⟨fun c hc ha => ?applied, fun c hc ha he hphase => ?discarded, fun w r ha => ?others,
    fun w he => ?data⟩
  case applied =>
    by_cases habort : c = .abort
    · rw [habort, exec_abort_commandWrite (.inr ha), State.commandWrite_applied ha]
    · obtain ⟨run, hrun⟩ := exec_of_commandWrite hc habort
      rw [hrun, State.commandWrite_applied ha]
  case discarded =>
    by_cases habort : c = .abort
    · rw [habort, exec_abort_commandWrite (.inl (hphase.resolve_left (not_not.2 habort))),
        State.commandWrite_discarded ha he]
      rfl
    · obtain ⟨run, hrun⟩ := exec_of_commandWrite hc habort
      rw [hrun, State.commandWrite_discarded ha he]
      rfl
  case others =>
    have ignored {t : State} : Host.Outcome.next (if s.win.resetApplied then s else t) = (.next s : Answer) :=
      congrArg _ (if_pos ha)
    exact ⟨ignored, ignored, ignored, ignored, ignored⟩
  case data =>
    simp only [exec, execDataWrite]
    split
    · rfl
    · cases hs : s.win.engine with
      | writePhase d cursor => exact absurd hs (he d cursor)
      | initialising | idle | executingSend | executingClear | readPhase => rfl

/-! ## The write phase -/

theorem State.chainOf_of_some {s : State} {d : DescId} {x : Descriptor} (hx : s.desc d = some x) :
    s.chainOf d = x.chain := by
  simp only [State.chainOf, hx]

/-- Every byte position below 64 times the chain's length has an address, in the cell of its group (R3). -/
theorem chainAddr_of_lt {chain : List CellId} {k : Nat} (h : k / 64 < chain.length) :
    ∃ a, chainAddr? chain k = some a ∧ a % 64 = k % 64 := by
  refine ⟨(chain[k / 64]'h).val * 64 + k % 64, ?_, by omega⟩
  rw [chainAddr?, Config.cellBytes, List.getElem?_eq_getElem h]
  rfl

theorem State.frameByte_of_addr {s : State} {chain : List CellId} {k a : Nat} (h : chainAddr? chain k = some a) :
    s.frameByte chain k = Memory.read s.cells a := by
  simp only [State.frameByte, h]

/-- What the frame memory reads after a payload word is stored: the low byte, when it counts, at its own place, and
the high byte at the place before it (R130, R131). -/
theorem State.read_storePayload {s : State} {d : DescId} {x : Descriptor} {h : Header} (hw : Memory.wf s.cells)
    (hx : s.desc d = some x) (hh : x.header = some h) (cursor : Nat) (w : Word) (a : Nat) :
    Memory.read (s.storePayload d cursor w).cells a =
      if 2 * cursor + 1 < h.length.toNat ∧ chainAddr? x.chain (4 + 2 * cursor + 1) = some a then w.extractLsb' 0 8
      else if chainAddr? x.chain (4 + 2 * cursor) = some a then w.extractLsb' 8 8
      else Memory.read s.cells a := by
  have hhigh := s.storesOnly_writeFrameByte x.chain (4 + 2 * cursor) (w.extractLsb' 8 8) hw a
  have hlow := (s.writeFrameByte x.chain (4 + 2 * cursor) (w.extractLsb' 8 8)).storesOnly_writeFrameByte x.chain
    (4 + 2 * cursor + 1) (w.extractLsb' 0 8) (s.writeFrameByte_wf _ _ _ hw) a
  unfold State.storePayload
  simp only [State.chainOf_of_some hx, State.headerOf_of_some hx hh]
  by_cases hodd : 2 * cursor + 1 < h.length.toNat
  · simp only [hodd, if_true, true_and, hlow, hhigh]
  · simp only [hodd, if_false, false_and, hhigh]

/-- A DATA write in the write phase stores its word; the last one completes the frame (R131). -/
theorem exec_dataWrite_writePhase {s : State} {d : DescId} {cursor : Nat} {x : Descriptor} {h : Header}
    (ha : s.win.resetApplied = false) (he : s.win.engine = .writePhase d cursor) (hx : s.desc d = some x)
    (hh : x.header = some h) (w : Word) :
    exec (.dataWrite w) s = .next ((s.storePayload d cursor w).setEngine
      (if (h.length.toNat + 1) / 2 ≤ cursor + 1 then .executingSend d else .writePhase d (cursor + 1))) := by
  simp only [exec, execDataWrite, ha, he, State.headerOf_of_some hx hh, wordsFor, Bool.false_eq_true, if_false]
  split <;> rfl

/-- Settles O12: the two bytes' places differ, as one is even and the other odd. -/
theorem dataWriteStoresAWord : Obligations.DataWriteStoresAWord := by
  refine ⟨fun chain k => ?address, fun s w d cursor x h ha he hw hx hh hlen hcursor => ?stores⟩
  case address =>
    simp only [chainAddr?, Config.cellBytes, Nat.mul_comm]
  case stores =>
    have hread := State.read_storePayload hw hx hh cursor w
    obtain ⟨a, hhigh, hmod⟩ := chainAddr_of_lt (chain := x.chain) (k := 4 + 2 * cursor) (by omega)
    refine ⟨_, exec_dataWrite_writePhase ha he hx hh w, ?_, ?_, fun hodd => ?_, fun b hnotHigh hnotLow => ?_⟩
    · rw [s.storePayload_frame d cursor w]
      rfl
    · rw [State.frameByte_of_addr hhigh]
      refine (hread a).trans ((if_neg fun ⟨hodd, hlow⟩ => ?_).trans (if_pos hhigh))
      obtain ⟨b, hb, hmod'⟩ := chainAddr_of_lt (chain := x.chain) (k := 4 + 2 * cursor + 1) (by omega)
      have hab : b = a := Option.some.inj (hb.symm.trans hlow)
      omega
    · obtain ⟨b, hlow, -⟩ := chainAddr_of_lt (chain := x.chain) (k := 4 + 2 * cursor + 1) (by omega)
      rw [State.frameByte_of_addr hlow]
      exact (hread b).trans (if_pos ⟨hodd, hlow⟩)
    · exact (hread b).trans ((if_neg fun ⟨hodd, hlow⟩ => hnotLow hodd hlow).trans (if_neg hnotHigh))

/-! ## The read phase and ABORT -/

/-- The host's copy leaves its slot and is released, and the window is not read. -/
theorem State.dropHostCopy_modWin (s : State) (f : Window → Window) (dep : Departure) :
    (s.modWin f).dropHostCopy dep = (s.dropHostCopy dep).modWin f :=
  State.releaseCopy_modWin (s.clearSlot .p0) f .p0 dep.desc

theorem State.dropHostCopy_win (s : State) (dep : Departure) : (s.dropHostCopy dep).win = s.win :=
  State.releaseCopy_win ..

/-- The end of a command writes the window and no more (R129). -/
theorem State.endCommand_eq (s : State) (code : Code) (r : Words4) : s.endCommand code r = { s with
    win := { s.win with engine := .idle, error := code, results := r, cmdDone := true } } := rfl

/-- The word a read of DATA returns in the read phase (R130, R132). -/
theorem State.readData_readPhase {s : State} {cursor : Nat} {dep : Departure} {x : Descriptor} {h : Header}
    (ha : s.win.resetApplied = false) (he : s.win.engine = .readPhase cursor)
    (hdep : s.outs.p0.departing = some dep) (hx : s.desc dep.desc = some x) (hh : x.header = some h) :
    s.readRegister 13#4 = s.frameByte x.chain (4 + 2 * cursor) ++
      (if 2 * cursor + 1 < h.length.toNat then s.frameByte x.chain (4 + (2 * cursor + 1)) else 0#8) := by
  have hread : s.readRegister 13#4 = s.dataWord := if_neg (Bool.eq_false_iff.1 ha)
  simp only [hread, State.dataWord, he, hdep, State.payloadWord, State.payloadByte, State.chainOf_of_some hx,
    State.headerOf_of_some hx hh]
  rfl

/-- Elsewhere it returns 0 (R133, R140). -/
theorem State.readData_elsewhere {s : State}
    (h : (∀ cursor, s.win.engine ≠ .readPhase cursor) ∨ s.win.resetApplied = true) : s.readRegister 13#4 = 0 := by
  rcases h with he | ha
  · have hword : s.dataWord = 0 := by
      unfold State.dataWord
      cases hs : s.win.engine with
      | readPhase cursor => exact absurd hs (he cursor)
      | initialising | idle | executingSend | executingClear | writePhase => rfl
    exact (congrArg (if s.win.resetApplied then 0 else ·) hword).trans (ite_self _)
  · exact State.readRegister_applied ha (by decide) (by decide)

/-- Outside the read phase a read of DATA drives the bus and does no more. -/
theorem exec_dataRead_elsewhere {s : State}
    (h : (∀ cursor, s.win.engine ≠ .readPhase cursor) ∨ s.win.resetApplied = true) :
    exec .dataRead s = .next (s.modWin fun w => { w with dataBus := s.readRegister 13#4 }) := by
  rcases h with he | ha
  · simp only [exec, execDataRead]
    split
    · rfl
    · cases hs : s.win.engine with
      | readPhase cursor => exact absurd hs (he cursor)
      | initialising | idle | executingSend | executingClear | writePhase => rfl
  · simp only [exec, execDataRead, ha, if_true]

/-- In the read phase the cursor rises, and the last word delivers the copy (R132). -/
theorem exec_dataRead_readPhase {s : State} {cursor : Nat} {dep : Departure} {x : Descriptor} {h : Header}
    (ha : s.win.resetApplied = false) (he : s.win.engine = .readPhase cursor)
    (hdep : s.outs.p0.departing = some dep) (hx : s.desc dep.desc = some x) (hh : x.header = some h) :
    let t := s.modWin fun w => { w with dataBus := s.readRegister 13#4 }
    exec .dataRead s = .next (if (h.length.toNat + 1) / 2 ≤ cursor + 1 then
        ((t.dropHostCopy dep).countDelivered .p0).endCommand .ok s.win.results
      else t.setEngine (.readPhase (cursor + 1))) := by
  simp only [exec, execDataRead, ha, he, hdep, State.headerOf_of_some hx hh, wordsFor, Bool.false_eq_true, if_false]

/-- Settles O42, by whether the word read is the last one. -/
theorem dataReadGivesAWord : Obligations.DataReadGivesAWord := by
  refine fun s => ⟨fun cursor dep x h ha he hdep hx hh =>
    ⟨fun hmore => ?more, fun hlast => ⟨s.dropHostCopy dep, rfl, ?last⟩⟩, fun h => ?elsewhere⟩
  case more =>
    rw [exec_dataRead_readPhase ha he hdep hx hh, if_neg (by omega), State.readData_readPhase ha he hdep hx hh]
    rfl
  case last =>
    rw [exec_dataRead_readPhase ha he hdep hx hh, if_pos hlast, State.readData_readPhase ha he hdep hx hh,
      State.dropHostCopy_modWin, State.endCommand_eq, State.countDelivered_win, State.modWin_win,
      State.dropHostCopy_win]
    generalize s.dropHostCopy dep = t
    rfl
  case elsewhere =>
    rw [exec_dataRead_elsewhere h, State.readData_elsewhere h]
    rfl

theorem State.abortPhase_write {s : State} {d : DescId} {cursor : Nat} (he : s.win.engine = .writePhase d cursor) :
    s.abortPhase = ((s.modWin fun w => { w with overrun := false }).freeDesc d).endPlain .aborted := by
  simp only [State.abortPhase, he]

theorem State.abortPhase_read {s : State} {cursor : Nat} {dep : Departure} (he : s.win.engine = .readPhase cursor)
    (hdep : s.outs.p0.departing = some dep) :
    s.abortPhase = (((s.modWin fun w => { w with overrun := false }).dropHostCopy dep).countLost .p0 1).endCommand
      .aborted s.win.results := by
  simp only [State.abortPhase, he, hdep]

/-- Settles O14, by the engine's state. -/
theorem abortEndsADataPhase : Obligations.AbortEndsADataPhase := by
  refine fun s ha => ⟨fun he => ?idle, fun d cursor he => ?writePhase,
    fun cursor dep he hdep => ⟨s.dropHostCopy dep, rfl, ?readPhase⟩⟩
  case idle =>
    rw [exec_abort_commandWrite (.inl (by rw [he]; rfl)), State.commandWrite_ready ⟨ha, he⟩]
    rfl
  case writePhase =>
    rw [exec_abort_phase (by rw [he]; rfl) ha, State.abortPhase_write he, State.freeDesc_modWin, State.endPlain,
      State.endCommand_eq, State.modWin_win, State.freeDesc_win]
    rfl
  case readPhase =>
    rw [exec_abort_phase (by rw [he]; rfl) ha, State.abortPhase_read he hdep, State.dropHostCopy_modWin,
      State.endCommand_eq, State.countLost_win, State.modWin_win, State.dropHostCopy_win]
    generalize s.dropHostCopy dep = t
    rfl

end Sys2Proof.Machine
end

section
/-! PROOFS. SEND and its resolution (sections 2.9, 3.4, 8.3 and 11.5 of the manual): the checks in their order, the
frame allocated and its header bytes stored, and the outcome with the set of its outputs. -/

namespace Sys2Proof.Machine

set_option Elab.async false

/-- A command taken in IDLE that ends in the same event with no results (R128, R129, R135). -/
theorem State.take_endPlain (s : State) (code : Code) : s.take.endPlain code = s.afterCommand code ⟨0, 0, 0, 0⟩ := rfl

/-! ## The checks of SEND -/

/-- A word above 1 names no class (R181). -/
theorem classOfWord_none {w : Word} (h : 2 ≤ w.toNat) : classOfWord w = none := by
  obtain ⟨k, hk⟩ := Nat.exists_eq_add_of_le' h
  rw [classOfWord, hk]
  rfl

theorem classOfWord_some {w : Word} (h : w.toNat ≤ 1) :
    classOfWord w = some (if w = 0 then .standard else .express) := by
  have hw : w.toNat = 0 ∨ w.toNat = 1 := by omega
  rcases hw with h | h <;> rw [← word_eq_iff (by decide)] at h <;> subst h <;> rfl

/-- The first check of SEND (R144): LENGTH, CLASS and HOPS in their ranges. -/
def sendLegal (w : Words4) : Prop := w.w3.toNat ≤ 1016 ∧ w.w1.toNat ≤ 1 ∧ w.w2.toNat ≤ 15

/-- The header that SEND's words give its frame (R2, R144). -/
def sendHeader (w : Words4) : Header :=
  ⟨w.w0.setWidth 8, if w.w1 = 0 then .standard else .express, w.w2.setWidth 4, 0, w.w3⟩

section
variable {s : State}

theorem exec_send_of_ready (h : HostReady s) : exec .send s = .next s.take.runSend :=
  congrArg Host.Outcome.next (State.commandWrite_ready h State.runSend)

theorem State.runSend_of_not_legal (h : ¬ sendLegal s.win.taken) : s.runSend = s.endPlain .badParam := by
  by_cases hclass : s.win.taken.w1.toNat ≤ 1
  · have hother : Config.maxPayload < s.win.taken.w3.toNat ∨ 15 < s.win.taken.w2.toNat := by
      by_contra hin
      obtain ⟨hlength, hhops⟩ := not_or.1 hin
      exact h ⟨not_lt.1 hlength, hclass, not_lt.1 hhops⟩
    simp only [State.runSend, classOfWord_some hclass, if_pos hother]
  · simp only [State.runSend, classOfWord_none (not_le.1 hclass)]

/-- With its words in range, SEND comes to the descriptor check. -/
theorem State.runSend_noDescriptor (h : sendLegal s.win.taken) (hfree : s.lowestFree = none) :
    s.runSend = s.endPlain .noDescriptor := by
  obtain ⟨hlength, hclass, hhops⟩ := h
  have hin : ¬ (Config.maxPayload < s.win.taken.w3.toNat ∨ 15 < s.win.taken.w2.toNat) :=
    not_or.2 ⟨not_lt.2 hlength, not_lt.2 hhops⟩
  simp only [State.runSend, classOfWord_some hclass, if_neg hin, hfree]

/-- With a FREE descriptor too, only the two checks of the pool are left (R29). -/
theorem State.runSend_descriptor {d : DescId} (h : sendLegal s.win.taken) (hfree : s.lowestFree = some d) :
    let k := (4 + s.win.taken.w3.toNat + 63) / 64
    s.runSend = if s.pool.holdLimit.p0 < s.pool.held.p0 + k then s.endPlain .holdLimit
      else if s.pool.freeList.length < k then s.endPlain .poolLow
      else s.beginSend d (sendHeader s.win.taken) k := by
  obtain ⟨hlength, hclass, hhops⟩ := h
  have hin : ¬ (Config.maxPayload < s.win.taken.w3.toNat ∨ 15 < s.win.taken.w2.toNat) :=
    not_or.2 ⟨not_lt.2 hlength, not_lt.2 hhops⟩
  simp only [State.runSend, classOfWord_some hclass, if_neg hin, hfree]
  rfl

/-- A FREE descriptor makes the search find one (R38). -/
theorem State.lowestFree_of_free (h : ∃ d, s.desc d = none) : ∃ d, s.lowestFree = some d := by
  obtain ⟨e, he⟩ := h
  exact Option.ne_none_iff_exists'.1 fun hnone => State.lowestFree_none.1 hnone e he

end

/-- Settles O10, check by check. -/
theorem sendRefusedByItsChecks : Obligations.SendRefusedByItsChecks := by
  intro s hready w legal k
  rw [exec_send_of_ready hready]
  refine ⟨fun hillegal => ?params, fun hlegal hnone => ?descriptor, fun hlegal hfree hover => ?holdLimit,
    fun hlegal hfree hwithin hshort => ?poolLow⟩
  case params => rw [State.runSend_of_not_legal (s := s.take) hillegal, State.take_endPlain]
  case descriptor =>
    rw [State.runSend_noDescriptor (s := s.take) hlegal (State.lowestFree_none.2 hnone), State.take_endPlain]
  case holdLimit =>
    obtain ⟨d, hd⟩ := State.lowestFree_of_free (s := s.take) hfree
    rw [State.runSend_descriptor (s := s.take) hlegal hd, ← State.take_endPlain]
    exact congrArg _ (if_pos hover)
  case poolLow =>
    obtain ⟨d, hd⟩ := State.lowestFree_of_free (s := s.take) hfree
    rw [State.runSend_descriptor (s := s.take) hlegal hd, ← State.take_endPlain]
    exact congrArg _ ((if_neg (not_lt.2 hwithin)).trans (if_pos hshort))

/-! ## Stored bytes -/

/-- A stored byte depends on the bytes of the cells alone. -/
theorem State.frameByte_congr {s t : State} (h : s.cells = t.cells) (chain : List CellId) (k : Nat) :
    s.frameByte chain k = t.frameByte chain k := by
  simp only [State.frameByte, h]

/-- So do the bytes of the cells after stored bytes are written. -/
theorem State.writeFrameBytes_congr {s t : State} (h : s.cells = t.cells) (chain : List CellId) (k : Nat)
    (bs : List Byte) : (s.writeFrameBytes chain k bs).cells = (t.writeFrameBytes chain k bs).cells := by
  induction bs generalizing s t k with
  | nil => exact h
  | cons b rest ih =>
    refine ih ?_ (k + 1)
    unfold State.writeFrameByte
    cases chainAddr? chain k with
    | none => exact h
    | some a => exact congrArg (Memory.write · a b) h

/-- Writing stored bytes leaves every address alone that is not one of theirs. -/
theorem State.read_writeFrameBytes_ne {chain : List CellId} {bs : List Byte} {s : State} {k a : Nat}
    (hw : Memory.wf s.cells) (ha : ∀ j, k ≤ j → j < k + bs.length → chainAddr? chain j ≠ some a) :
    Memory.read (s.writeFrameBytes chain k bs).cells a = Memory.read s.cells a := by
  induction bs generalizing s k with
  | nil => rfl
  | cons b rest ih =>
    have hfirst : chainAddr? chain k ≠ some a := ha k le_rfl (by simp)
    have hrest : ∀ j, k + 1 ≤ j → j < k + 1 + rest.length → chainAddr? chain j ≠ some a :=
      fun j hj hlt => ha j (by omega) (by simp only [List.length_cons]; omega)
    rw [State.writeFrameBytes, ih (s.writeFrameByte_wf chain k b hw) hrest,
      s.storesOnly_writeFrameByte chain k b hw a, if_neg hfirst]

/-- The bytes written into the first cell of a chain stand at their positions (R3). -/
theorem State.frameByte_writeFrameBytes {chain : List CellId} {bs : List Byte} {s : State} {k i : Nat} {b : Byte}
    (hw : Memory.wf s.cells) (hchain : chain ≠ []) (hfit : k + bs.length ≤ 64) (hb : bs[i]? = some b) :
    (s.writeFrameBytes chain k bs).frameByte chain (k + i) = b := by
  induction bs generalizing s k i with
  | nil => cases hb
  | cons x rest ih =>
    rw [List.length_cons] at hfit
    have hwf := s.writeFrameByte_wf chain k x hw
    cases i with
    | succ i =>
      rw [Nat.add_comm i 1, ← Nat.add_assoc]
      exact ih hwf (by omega) (by simpa using hb)
    | zero =>
      have hxb : x = b := by simpa using hb
      have address {j : Nat} (hj : j < 64) : ∃ a, chainAddr? chain j = some a ∧ a % 64 = j % 64 :=
        chainAddr_of_lt (by rw [Nat.div_eq_of_lt hj]; exact List.length_pos_iff.2 hchain)
      obtain ⟨a, ha, hmod⟩ := address (j := k) (by omega)
      have hlater : ∀ j, k + 1 ≤ j → j < k + 1 + rest.length → chainAddr? chain j ≠ some a := by
        intro j hj hlt hja
        obtain ⟨c, hc, hcmod⟩ := address (j := j) (by omega)
        have hca : c = a := Option.some.inj (hc.symm.trans hja)
        omega
      rw [Nat.add_zero, State.frameByte_of_addr ha, State.writeFrameBytes, State.read_writeFrameBytes_ne hwf hlater,
        s.storesOnly_writeFrameByte chain k x hw a, if_pos ha, hxb]

/-! ## The frame of a SEND -/

/-- Cells from the head of the free list and descriptor `d` taken for a SEND's frame, its bytes aside (R29, R36,
R38). -/
def State.allocateSend (s : State) (d : DescId) (h : Header) (k : Nat) : State :=
  { s with
    pool := { s.pool with
      freeList := s.pool.freeList.drop k, held := { s.pool.held with p0 := s.pool.held.p0 + k } }
    descs := s.descs.set d.val (some
      { state := .assembling, source := .p0, stamp := s.stamp, header := some h, chain := s.pool.freeList.take k,
        copies := PerPort.const none }) d.isLt
    stamp := s.stamp + 1 }

/-- The start of a SEND allocates its frame, writes the header bytes, and begins the write phase when there is payload
(R4, R145). -/
theorem State.beginSend_eq (s : State) (d : DescId) (h : Header) (k : Nat) :
    s.beginSend d h k = { s.allocateSend d h k with
      cells := (s.writeFrameBytes (s.pool.freeList.take k) 0 (headerBytes h)).cells
      win := { s.win with
        engine := if h.length = 0 then .executingSend d else .writePhase d 0
        dataReq := s.win.dataReq || decide (h.length ≠ 0) } } := by
  have hbytes : (s.allocateSend d h k).writeFrameBytes (s.pool.freeList.take k) 0 (headerBytes h) =
      { s.allocateSend d h k with
        cells := (s.writeFrameBytes (s.pool.freeList.take k) 0 (headerBytes h)).cells } := by
    rw [State.writeFrameBytes_frame, State.writeFrameBytes_congr (s := s.allocateSend d h k) (t := s) rfl]
  have hbegin : s.beginSend d h k =
      let u := (s.allocateSend d h k).writeFrameBytes (s.pool.freeList.take k) 0 (headerBytes h)
      if h.length = 0 then u.setEngine (.executingSend d) else u.beginPhase (.writePhase d 0) := rfl
  rw [hbegin, hbytes]
  by_cases hzero : h.length = 0
  · rw [if_pos hzero, if_pos hzero, decide_eq_false (not_not.2 hzero), Bool.or_false]
    rfl
  · rw [if_neg hzero, if_neg hzero, decide_eq_true hzero, Bool.or_true]
    rfl

/-- The class bit of the second header byte (R179). -/
theorem sendHeader_byte1 {w : Words4} (h : w.w1.toNat ≤ 1) :
    (BitVec.ofNat 1 (classCode (sendHeader w).cls) ++ (sendHeader w).hops ++ (sendHeader w).spare : BitVec 8) =
      (w.w1.setWidth 1 ++ w.w2.setWidth 4 ++ (0 : BitVec 3) : BitVec 8) := by
  have hclass : BitVec.ofNat 1 (classCode (sendHeader w).cls) = w.w1.setWidth 1 := by
    have hw : w.w1.toNat = 0 ∨ w.w1.toNat = 1 := by omega
    rcases hw with h | h <;> rw [← word_eq_iff (by decide)] at h <;> rw [sendHeader, h] <;> rfl
  rw [hclass]
  rfl

/-- Settles O11: the state by its fields, and the header bytes by their places in the first cell. -/
theorem sendAllocatesItsFrame : Obligations.SendAllocatesItsFrame := by
  intro s d hready hw hd w k hlength hclass hhops hhold hcells chain cls
  have hbegin : exec .send s = .next (s.take.beginSend d (sendHeader w) k) := by
    rw [exec_send_of_ready hready, State.runSend_descriptor (s := s.take) ⟨hlength, hclass, hhops⟩ hd.lowestFree]
    exact congrArg _ ((if_neg (not_lt.2 hhold)).trans (if_neg (not_lt.2 hcells)))
  have hcell : (s.take.writeFrameBytes chain 0 (headerBytes (sendHeader w))).cells =
      (s.writeFrameBytes chain 0 (headerBytes (sendHeader w))).cells :=
    State.writeFrameBytes_congr (s := s.take) (t := s) rfl ..
  have hchain : chain ≠ [] := by
    rw [← List.length_pos_iff, List.length_take]
    omega
  have byte {t : State} (ht : t.cells = (s.writeFrameBytes chain 0 (headerBytes (sendHeader w))).cells) {i : Nat}
      {b : Byte} (hb : (headerBytes (sendHeader w))[i]? = some b) : t.frameByte chain i = b := by
    rw [State.frameByte_congr ht, ← Nat.zero_add i]
    exact State.frameByte_writeFrameBytes hw hchain (by simp [headerBytes]) hb
  rw [State.beginSend_eq] at hbegin
  refine ⟨_, hbegin, rfl, byte hcell rfl, ?_, byte hcell rfl, byte hcell rfl, fun a ha => ?_⟩
  · rw [← sendHeader_byte1 hclass]
    exact byte hcell rfl
  · refine (congrArg (Memory.read · a) hcell).trans (State.read_writeFrameBytes_ne hw fun j _ hj => ha j ?_)
    simpa [headerBytes] using hj

/-! ## The end of SEND -/

/-- What a resolution answers is what is decided (R58). -/
theorem State.resolve_fst (s : State) (d : DescId) (source : Port) (h : Header) :
    (s.resolve d source h).1 = s.decideRoute source h := by
  unfold State.resolve
  cases s.decideRoute source h <;> rfl

/-- The number of a set of ports, each named once, has the bits of its members (section 11.4). -/
theorem testBit_portSet {ps : List Port} (h : ps.Nodup) (i : Nat) :
    (portSet ps).testBit i = decide (∃ p ∈ ps, p.num = i) := by
  have hinj : Function.Injective Port.num := fun p q => by cases p <;> cases q <;> decide
  have hsum : portSet ps = ∑ j ∈ (ps.map Port.num).toFinset, 2 ^ j := by
    rw [List.sum_toFinset _ (h.map hinj), List.map_map]
    rfl
  rw [Bool.eq_iff_iff, decide_eq_true_iff, hsum, ← Nat.mem_bitIndices, ← List.mem_toFinset,
    Finset.toFinset_bitIndices_sum_two_pow, List.mem_toFinset, List.mem_map]

theorem portSet_word_bit {ps : List Port} (h : ps.Nodup) (i : Nat) :
    (BitVec.ofNat 16 (portSet ps)).getLsbD i = decide (∃ p ∈ ps, p.num = i) := by
  rw [BitVec.getLsbD_ofNat, testBit_portSet h]
  by_cases hi : i < 16
  · rw [decide_eq_true hi, Bool.true_and]
  · rw [decide_eq_false hi, Bool.false_and, eq_comm, decide_eq_false_iff_not]
    rintro ⟨p, -, rfl⟩
    exact hi (by cases p <;> decide)

section
variable {s t : State} {d : DescId} {x : Descriptor} {h : Header}

/-- A resolution that discards a completed SEND's frame ends SEND with the cause (R71, R146). -/
theorem exec_resolution_discard {cause : Code} (he : s.win.engine = .executingSend d) (hx : s.desc d = some x)
    (hh : x.header = some h) (hr : s.resolve d .p0 h = (.discard cause, t)) :
    exec .resolution s = .next (t.endPlain cause) := by
  simp only [exec, execResolution, he, State.headerOf_of_some hx hh, hr]

/-- One that places copies ends it with OK and its three results (R146, R182). -/
theorem exec_resolution_place {outputs : List Port} {refused : List (Port × Code)} {pointer : Option Port}
    (he : s.win.engine = .executingSend d) (hx : s.desc d = some x) (hh : x.header = some h)
    (hr : s.resolve d .p0 h = (.place outputs refused pointer, t)) :
    exec .resolution s = .next (t.endCommand .ok
      ⟨BitVec.ofNat 16 (portSet outputs), BitVec.ofNat 16 refused.length, x.stamp, 0⟩) := by
  simp only [exec, execResolution, he, State.headerOf_of_some hx hh, hr, hx, results, BitVec.ofNat_toNat,
    BitVec.setWidth_eq]
  rfl

end

/-- Settles O13, by whether a SEND is completed and by what its resolution decides. -/
theorem resolutionEndsSend : Obligations.ResolutionEndsSend := by
  refine fun s => ⟨fun d x h t he hx hh => ⟨fun cause hr => ?discard, fun outputs refused pointer hr =>
    ⟨_, exec_resolution_place he hx hh hr, ?place⟩⟩, fun hne => ?none⟩
  case discard => exact exec_resolution_discard he hx hh hr
  case place =>
    have hdecided : s.decideRoute .p0 h = .place outputs refused pointer := by rw [← s.resolve_fst d, hr]
    obtain ⟨-, hnodup, -⟩ := State.decideRoute_place hdecided
    exact portSet_word_bit hnodup
  case none =>
    simp only [exec, execResolution]
    cases he : s.win.engine with
    | executingSend d => exact absurd he (hne d)
    | initialising | idle | executingClear | writePhase | readPhase => rfl

end Sys2Proof.Machine
end

section
/-! PROOFS. RECV and SKIP (sections 5.8, 8.4 and 11.5 of the manual): the header results of the copy selected, its
release, and the two commands. -/

namespace Sys2Proof.Machine

set_option Elab.async false

/-! ## Header results -/

/-- Two words side by side make the number in which the left one stands above the right one. -/
theorem toNat_append_eq_add {m n : Nat} (v : BitVec m) (w : BitVec n) :
    (v ++ w).toNat = v.toNat * 2 ^ n + w.toNat := by
  rw [BitVec.toNat_append, ← Nat.shiftLeft_add_eq_or_of_lt w.isLt, Nat.shiftLeft_eq]

/-- The first result of RECV and SKIP, bit by bit: source, class and HOPS (R182). -/
theorem headerWord_eq (source : Port) (cls : Class) (hops : BitVec 4) :
    BitVec.ofNat 16 (source.num + 16 * classCode cls + 256 * hops.toNat) =
      (0#4 ++ hops ++ 0#3 ++ BitVec.ofBool (decide (cls = .express)) ++ 0#1 ++ BitVec.ofNat 3 source.num :
        BitVec 16) := by
  have hsource : source.num < 8 := by cases source <;> decide
  have hclass : (BitVec.ofBool (decide (cls = .express))).toNat = classCode cls := by cases cls <;> rfl
  have hcode : classCode cls ≤ 1 := by cases cls <;> decide
  have hhops := hops.isLt
  have hparts : (0#4 ++ hops ++ 0#3 ++ BitVec.ofBool (decide (cls = .express)) ++ 0#1 ++
      BitVec.ofNat 3 source.num).toNat = source.num + 16 * classCode cls + 256 * hops.toNat := by
    simp only [toNat_append_eq_add, hclass, BitVec.toNat_ofNat, Nat.reducePow, Nat.zero_mod]
    omega
  refine BitVec.eq_of_toNat_eq (Eq.trans ?_ hparts.symm)
  rw [BitVec.toNat_ofNat, Nat.mod_eq_of_lt (by omega)]

/-- The six results of RECV and SKIP in the words of a copy's descriptor and header (R147, R182). -/
theorem State.headerResults_of_some {s : State} {d : DescId} {x : Descriptor} {h : Header} (hx : s.desc d = some x)
    (hh : x.header = some h) (cls : Class) : s.headerResults d cls =
      ⟨(0#4 ++ h.hops ++ 0#3 ++ BitVec.ofBool (decide (cls = .express)) ++ 0#1 ++
          BitVec.ofNat 3 x.source.num : BitVec 16),
        h.dest.setWidth 16, h.length, x.stamp⟩ := by
  simp only [State.headerResults, State.headerOf_of_some hx hh, hx, results, headerWord_eq, BitVec.ofNat_toNat,
    BitVec.setWidth_eq]

/-! ## The release of the copy selected -/

/-- A copy taken from its queue is released alike before and after its command is taken. -/
theorem State.releaseCopy_take_setOut (s : State) (p : Port) (o : Output) (d : DescId) :
    (s.take.setOut p o).releaseCopy p d = ((s.setOut p o).releaseCopy p d).take :=
  State.releaseCopy_modWin (s.setOut p o)
    (fun w => { w with error := .ok, overrun := false, taken := w.params }) p d

/-- A copy is released alike whether it is QUEUED or DEPARTING (R46). -/
theorem State.releaseCopy_markDeparting (s : State) (p : Port) (d : DescId) :
    (s.markDeparting p d).releaseCopy p d = s.releaseCopy p d := by
  cases hx : s.desc d with
  | none => simp only [State.markDeparting, hx]
  | some x =>
    cases hc : x.copies.get p with
    | none => simp only [State.markDeparting, hx, hc]
    | some c =>
      have hne : x.copies.get p ≠ none := by rw [hc]; exact Option.some_ne_none c
      rw [State.markDeparting_of_some hx hc, State.releaseCopy_of_some hx hne,
        State.releaseCopy_of_some (State.desc_setDesc_self ..) (by simp), PerPort.set_set,
        State.freeDesc_of_some hx, State.freeDesc_of_some (State.desc_setDesc_self ..)]
      simp [State.setDesc]

/-- The copy taken from port 0's queues and released at once, whatever its slot held between (R95, R96). -/
theorem State.dropHostCopy_markDeparting (s : State) (o : Output) (dep : Departure) :
    ((s.setOut .p0 { o with departing := some dep }).markDeparting .p0 dep.desc).dropHostCopy dep =
      (s.setOut .p0 { o with departing := none }).releaseCopy .p0 dep.desc := by
  have hclear : ((s.setOut .p0 { o with departing := some dep }).markDeparting .p0 dep.desc).clearSlot .p0 =
      (s.setOut .p0 { o with departing := none }).markDeparting .p0 dep.desc := by
    rw [State.markDeparting_setOut, State.markDeparting_setOut]
    rfl
  rw [State.dropHostCopy, hclear, State.releaseCopy_markDeparting]

/-! ## RECV -/

section
variable {s : State}

theorem exec_recv_of_ready (h : HostReady s) : exec .recv s = .next s.take.runRecv :=
  congrArg Host.Outcome.next (State.commandWrite_ready h State.runRecv)

theorem State.runRecv_empty (hnext : s.outs.p0.takeNext = none) : s.runRecv = s.endPlain .queueEmpty := by
  simp only [State.runRecv, hnext]

/-- A copy with payload departs at port 0, and the read phase begins (R130, R147). -/
theorem State.runRecv_reads {d : DescId} {cls : Class} {o : Output} (hnext : s.outs.p0.takeNext = some (d, cls, o))
    (hlength : (s.headerOf d).length ≠ 0) :
    s.runRecv = ((((s.setOut .p0 { o with departing := some ⟨d, cls, 0, false⟩ }).markDeparting .p0 d).modWin
      fun w => { w with results := s.headerResults d cls }).beginPhase (.readPhase 0)) := by
  simp only [State.runRecv, hnext, if_neg hlength]

/-- A copy with LENGTH 0 is delivered in the event that takes it (R147). -/
theorem State.runRecv_delivers {d : DescId} {cls : Class} {o : Output} (hnext : s.outs.p0.takeNext = some (d, cls, o))
    (hlength : (s.headerOf d).length = 0) :
    s.runRecv = (((s.setOut .p0 { o with departing := none }).releaseCopy .p0 d).countDelivered .p0).endCommand .ok
      (s.headerResults d cls) := by
  simp only [State.runRecv, hnext, if_pos hlength]
  rw [State.dropHostCopy_markDeparting s o ⟨d, cls, 0, false⟩]

end

/-- Settles O41, by the queues and by the LENGTH of the copy selected. -/
theorem recvSelectsACopy : Obligations.RecvSelectsACopy := by
  refine fun s hready => ⟨fun he hs => ?empty, fun d cls o x h c hnext hx hh hc => ?_⟩
  case empty =>
    rw [exec_recv_of_ready hready, State.runRecv_empty (s := s.take) (Output.takeNext_none he hs), State.take_endPlain]
  intro r
  have hheader : s.take.headerOf d = h := State.headerOf_of_some (s := s.take) hx hh
  have hresults : s.take.headerResults d cls = r := State.headerResults_of_some (s := s.take) hx hh cls
  rw [exec_recv_of_ready hready]
  refine ⟨fun hlength => ?reads, fun hlength => ⟨_, rfl, ?delivers⟩⟩
  case reads =>
    have hne : h.length ≠ 0 := fun hzero => by simp [hzero] at hlength
    rw [State.runRecv_reads (s := s.take) hnext (hheader ▸ hne), hresults, State.markDeparting_setOut,
      State.markDeparting_of_some (s := s.take) hx hc]
    rfl
  case delivers =>
    rw [State.runRecv_delivers (s := s.take) hnext (hheader ▸ hlength), hresults, State.releaseCopy_take_setOut]
    rfl

/-! ## SKIP -/

section
variable {s : State}

theorem exec_skip_of_ready (h : HostReady s) : exec .skip s = .next s.take.runSkip :=
  congrArg Host.Outcome.next (State.commandWrite_ready h State.runSkip)

theorem State.runSkip_empty (hnext : s.outs.p0.takeNext = none) : s.runSkip = s.endPlain .queueEmpty := by
  simp only [State.runSkip, hnext]

theorem State.runSkip_releases {d : DescId} {cls : Class} {o : Output}
    (hnext : s.outs.p0.takeNext = some (d, cls, o)) :
    s.runSkip = (((s.setOut .p0 o).releaseCopy .p0 d).countLost .p0 1).endCommand .ok (s.headerResults d cls) := by
  simp only [State.runSkip, hnext]

end

/-- Settles O43, by the queues. -/
theorem skipReleasesACopy : Obligations.SkipReleasesACopy := by
  refine fun s hready => ⟨fun he hs => ?empty, fun d cls o x h hnext hx hh => ⟨_, rfl, ?releases⟩⟩
  case empty =>
    rw [exec_skip_of_ready hready, State.runSkip_empty (s := s.take) (Output.takeNext_none he hs), State.take_endPlain]
  case releases =>
    rw [exec_skip_of_ready hready, State.runSkip_releases (s := s.take) hnext,
      State.headerResults_of_some (s := s.take) hx hh, State.releaseCopy_take_setOut]
    rfl

end Sys2Proof.Machine
end

section
/-! PROOFS. PORT_CONFIG (sections 5.3, 8.6 and 11.4 of the manual): the speed field and the bits port 0 does not have,
then the checks and the settings. -/

namespace Sys2Proof.Machine

set_option Elab.async false

/-! ## The bits of PARAM3 -/

/-- A speed field above 3 names no rate (R181). -/
theorem speedOfWord_none {w : Word} (h : 4 ≤ (w.extractLsb' 4 3).toNat) : speedOfWord w = none := by
  obtain ⟨k, hk⟩ := Nat.exists_eq_add_of_le' h
  rw [speedOfWord, hk]
  rfl

theorem speedOfWord_some {w : Word} (h : (w.extractLsb' 4 3).toNat ≤ 3) :
    speedOfWord w = some (if (w.extractLsb' 4 3).toNat = 0 then .mbit100
      else if (w.extractLsb' 4 3).toNat = 1 then .mbit50
      else if (w.extractLsb' 4 3).toNat = 2 then .mbit25 else .mbit10) := by
  rw [speedOfWord]
  generalize (w.extractLsb' 4 3).toNat = speed at h
  have hspeed : speed = 0 ∨ speed = 1 ∨ speed = 2 ∨ speed = 3 := by omega
  rcases hspeed with rfl | rfl | rfl | rfl <;> rfl

theorem bitVec_ne_zero_iff {n : Nat} {v : BitVec n} : v ≠ 0 ↔ ∃ i, v.getLsbD i = true := by
  simpa only [BitVec.and_self, and_self] using word_and_ne_zero_iff (v := v) (w := v)

/-- The bits of PARAM3 that must be 0 at port 0: reflect, auto-restart and the speed field (R153, R181). -/
theorem hostSettingBits (w : Word) : w &&& 0x0073#16 ≠ 0 ↔
    w.getLsbD 0 = true ∨ w.getLsbD 1 = true ∨ (w.extractLsb' 4 3).toNat ≠ 0 := by
  have hmask (i : Nat) : (0x0073#16).getLsbD i = true ↔ i = 0 ∨ i = 1 ∨ i = 4 ∨ i = 5 ∨ i = 6 := by
    have hbits : 0x0073#16 = wordOfBits [(0, true), (1, true), (4, true), (5, true), (6, true)] := by decide
    rw [hbits, wordOfBits_bit_iff (by simp)]
    simp
  have hspeed : (w.extractLsb' 4 3).toNat ≠ 0 ↔
      w.getLsbD 4 = true ∨ w.getLsbD 5 = true ∨ w.getLsbD 6 = true := by
    have hzero : (w.extractLsb' 4 3).toNat ≠ 0 ↔ w.extractLsb' 4 3 ≠ 0 := not_congr (BitVec.toNat_inj (y := 0))
    simp only [hzero, bitVec_ne_zero_iff, BitVec.getLsbD_extractLsb', Bool.and_eq_true, decide_eq_true_eq,
      Nat.exists_lt_succ_right, Nat.not_lt_zero, false_and, exists_false, false_or, or_assoc]
  rw [word_and_ne_zero_iff, hspeed]
  simp only [hmask, and_or_left, exists_or, exists_eq_right]

/-! ## The checks and the settings -/

section
variable {s : State}

theorem exec_portConfig_of_ready (h : HostReady s) : exec .portConfig s = .next s.take.runPortConfig :=
  congrArg Host.Outcome.next (State.commandWrite_ready h State.runPortConfig)

/-- No port above 6, and no yield count above 15 (R153). -/
theorem State.runPortConfig_refused (h : 7 ≤ s.win.taken.w0.toNat ∨ 16 ≤ s.win.taken.w1.toNat) :
    s.runPortConfig = s.endPlain .badParam := by
  unfold State.runPortConfig
  dsimp only
  cases hport : portOfWord s.win.taken.w0 with
  | none => rfl
  | some p =>
    have hrange : ¬ 7 ≤ s.win.taken.w0.toNat := fun h7 => by
      rw [portOfWord_none h7] at hport
      cases hport
    exact if_pos (h.resolve_left hrange)

/-- Port 0 has its yield count alone (R79, R153). -/
theorem State.runPortConfig_host (h0 : s.win.taken.w0 = 0) (hyield : s.win.taken.w1.toNat ≤ 15) :
    s.runPortConfig =
      if s.win.taken.w2 ≠ 0 ∨ s.win.taken.w3.getLsbD 0 = true ∨ s.win.taken.w3.getLsbD 1 = true ∨
          (s.win.taken.w3.extractLsb' 4 3).toNat ≠ 0 then
        s.endPlain .badParam
      else (s.setYield .p0 s.win.taken.w1.toNat).endPlain .ok := by
  have hport : portOfWord s.win.taken.w0 = some .p0 := by rw [h0]; rfl
  simp only [State.runPortConfig, hport, if_neg (not_lt.2 hyield), Port.link?, hostSettingBits]

/-- The link items that PORT_CONFIG's words set; queue state and timers stay (R79, R181). -/
def LinkOutput.configured (o : LinkOutput) (w : Words4) (speed : Rate) : LinkOutput :=
  { o with
    stallCode := w.w2.extractLsb' 0 8
    holdCode := w.w2.extractLsb' 8 8
    reflect := w.w3.getLsbD 0
    autoRestart := w.w3.getLsbD 1
    speed := speed }

theorem State.runPortConfig_link_refused {p : LinkId} (hp : s.win.taken.w0.toNat = p.num)
    (hyield : s.win.taken.w1.toNat ≤ 15) (hspeed : speedOfWord s.win.taken.w3 = none) :
    s.runPortConfig = s.endPlain .badParam := by
  simp only [State.runPortConfig, portOfWord_num (hp.trans (port_num p).symm), if_neg (not_lt.2 hyield),
    LinkId.link_port, hspeed]

theorem State.runPortConfig_link {p : LinkId} {speed : Rate} (hp : s.win.taken.w0.toNat = p.num)
    (hyield : s.win.taken.w1.toNat ≤ 15) (hspeed : speedOfWord s.win.taken.w3 = some speed) :
    s.runPortConfig = ((s.setYield p.port s.win.taken.w1.toNat).setLinkOut p
      ((s.linkOuts.get p).configured s.win.taken speed)).endPlain .ok := by
  simp only [State.runPortConfig, portOfWord_num (hp.trans (port_num p).symm), if_neg (not_lt.2 hyield),
    LinkId.link_port, hspeed]
  rfl

end

/-- Settles O48: the range checks, then port 0 and the links apart. -/
theorem portConfigSetsThePort : Obligations.PortConfigSetsThePort := by
  intro s hready w ends speed
  have hexec := exec_portConfig_of_ready hready
  refine ⟨fun h => ?range, fun h0 hyield => ⟨fun h => ?hostRefused, fun h2 hreflect hrestart hspeed => ?host⟩,
    fun p hp hyield => ⟨fun h => ?linkRefused, fun h => ?link⟩⟩
  case range => exact hexec.trans (congrArg _ (State.runPortConfig_refused (s := s.take) h))
  case hostRefused =>
    exact hexec.trans (congrArg _ ((State.runPortConfig_host (s := s.take) h0 hyield).trans (if_pos h)))
  case host =>
    have hzero : ¬ (w.w2 ≠ 0 ∨ w.w3.getLsbD 0 = true ∨ w.w3.getLsbD 1 = true ∨ speed ≠ 0) := by
      simp only [h2, hreflect, hrestart, hspeed]
      decide
    exact hexec.trans (congrArg _ ((State.runPortConfig_host (s := s.take) h0 hyield).trans (if_neg hzero)))
  case linkRefused =>
    exact hexec.trans (congrArg _ (State.runPortConfig_link_refused (s := s.take) hp hyield (speedOfWord_none h)))
  case link =>
    exact hexec.trans (congrArg _ (State.runPortConfig_link (s := s.take) hp hyield (speedOfWord_some h)))

end Sys2Proof.Machine
end

section
/-! PROOFS. The record and counter commands, CLEAR_SWITCH and its end, and the unknown codes (sections 8.2, 8.8, 8.9,
11.4 and 11.5 of the manual). -/

namespace Sys2Proof.Machine

set_option Elab.async false

/-! ## The record word -/

/-- A port as a record shows it: 7 for none (R182). -/
def recordPort (p : Option Port) : Nat := (p.map Port.num).getD 7

theorem recordPort_lt (p : Option Port) : recordPort p < 8 := by
  cases p with
  | none => decide
  | some q => cases q <;> decide

/-- What a LINK_FAULT record adds to the record word (R182). -/
def recordFault (f : Option FaultReport) : Nat :=
  (f.map fun g => 2048 * faultKindValue g.kind + 16384 * yesNo g.lostIn + 32768 * yesNo g.cutOut).getD 0

theorem recordWord_eq (r : Record) : recordWord r = codeValue r.cause + 16 * recordPort r.inPort +
    128 * recordPort r.outPort + 1024 * (if r.frame = none then 0 else 1) + recordFault r.fault := by
  obtain ⟨seq, cause, inPort, outPort, frame, count, fault⟩ := r
  cases inPort <;> cases outPort <;> cases frame <;> cases fault <;> rfl

theorem yesNo_le (b : Bool) : yesNo b ≤ 1 := by cases b <;> decide

theorem faultKindValue_lt (k : FaultKind) : faultKindValue k < 8 := by cases k <;> decide

/-- The four fields every record word has, read back from the number they make, and what stands above them. -/
theorem recordFields {cause inPort outPort frame fault : Nat} (hcause : cause < 16) (hin : inPort < 8)
    (hout : outPort < 8) (hframe : frame < 2) :
    let n := cause + 16 * inPort + 128 * outPort + 1024 * frame + 2048 * fault
    n / 2 ^ 0 % 2 ^ 4 = cause ∧ n / 2 ^ 4 % 2 ^ 3 = inPort ∧ n / 2 ^ 7 % 2 ^ 3 = outPort ∧
      n / 2 ^ 10 % 2 ^ 1 = frame ∧ n / 2 ^ 11 = fault := by
  simp only [Nat.reducePow]
  omega

/-- The fault field starts at bit 11. -/
theorem recordFault_eq (f : Option FaultReport) : recordFault f =
    2048 * (f.map fun g => faultKindValue g.kind + 8 * yesNo g.lostIn + 16 * yesNo g.cutOut).getD 0 := by
  cases f with
  | none => rfl
  | some g =>
    simp only [recordFault, Option.map_some, Option.getD_some]
    omega

/-- The fields of the record word (R182). -/
theorem recordWord_fields {r : Record} (hcause : codeValue r.cause ≤ 12) :
    recordWord r / 2 ^ 0 % 2 ^ 4 = codeValue r.cause ∧ recordWord r / 2 ^ 4 % 2 ^ 3 = recordPort r.inPort ∧
      recordWord r / 2 ^ 7 % 2 ^ 3 = recordPort r.outPort ∧
      recordWord r / 2 ^ 10 % 2 ^ 1 = (if r.frame = none then 0 else 1) ∧
      recordWord r / 2 ^ 11 =
        (r.fault.map fun g => faultKindValue g.kind + 8 * yesNo g.lostIn + 16 * yesNo g.cutOut).getD 0 := by
  rw [recordWord_eq, recordFault_eq]
  exact recordFields (by omega) (recordPort_lt _) (recordPort_lt _) (by split <;> decide)

/-- The fields of a LINK_FAULT record above bit 10 (R115, R182). -/
theorem recordWord_faultFields {r : Record} {g : FaultReport} (hcause : codeValue r.cause ≤ 12)
    (hfault : r.fault = some g) :
    recordWord r / 2 ^ 11 % 2 ^ 3 = faultKindValue g.kind ∧ recordWord r / 2 ^ 14 % 2 ^ 1 = yesNo g.lostIn ∧
      recordWord r / 2 ^ 15 % 2 ^ 1 = yesNo g.cutOut := by
  obtain ⟨-, -, -, -, habove⟩ := recordWord_fields hcause
  rw [hfault, Option.map_some, Option.getD_some] at habove
  have hkind := faultKindValue_lt g.kind
  have hlost := yesNo_le g.lostIn
  have hcut := yesNo_le g.cutOut
  simp only [Nat.reducePow] at habove ⊢
  omega

/-! ## TAKE_RECORD -/

theorem recordResults_eq (r : Record) (overflow : Nat) : recordResults r overflow =
    ⟨r.seq, BitVec.ofNat 16 (recordWord r),
      BitVec.ofNat 16 ((r.frame.map fun f => f.1.toNat).getD 0 + 256 * overflow),
      BitVec.ofNat 16 ((r.frame.map fun f => f.2.toNat).getD (r.count.getD 0))⟩ := by
  unfold recordResults results
  rw [BitVec.ofNat_toNat, BitVec.setWidth_eq]
  cases r.frame with
  | some f => rfl
  | none => cases r.count <;> rfl

section
variable {s : State}

theorem exec_takeRecord_of_ready (h : HostReady s) : exec .takeRecord s = .next s.take.runTakeRecord :=
  congrArg Host.Outcome.next (State.commandWrite_ready h State.runTakeRecord)

theorem State.runTakeRecord_nil (hlist : s.records.list = []) :
    s.runTakeRecord = s.endCommand .noRecord ⟨0, 0, BitVec.ofNat 16 (256 * s.records.overflow), 0⟩ := by
  simp only [State.runTakeRecord, hlist]
  rfl

theorem State.runTakeRecord_cons {r : Record} {rest : List Record} (hlist : s.records.list = r :: rest) :
    s.runTakeRecord = ({ s with records := { s.records with list := rest } } : State).endCommand .ok
      (recordResults r s.records.overflow) := by
  simp only [State.runTakeRecord, hlist]

end

/-- Settles O52: the command by its list, and the record word field by field. -/
theorem takeRecordReturnsTheOldest : Obligations.TakeRecordReturnsTheOldest := by
  refine ⟨fun s hready => ⟨fun hlist => ?empty, fun r rest hlist => ?oldest⟩, fun r => ?fields, rfl, rfl, rfl⟩
  case empty =>
    rw [exec_takeRecord_of_ready hready, State.runTakeRecord_nil (s := s.take) hlist]
    rfl
  case oldest =>
    intro dest last
    rw [exec_takeRecord_of_ready hready, State.runTakeRecord_cons (s := s.take) hlist, recordResults_eq]
    rfl
  case fields =>
    intro field port
    refine ⟨fun hcause => ?common, fun hcause hfault => ?noFault, fun kind lostIn cutOut hcause hfault =>
      recordWord_faultFields hcause hfault⟩
    case common =>
      obtain ⟨hc, hin, hout, hframe, -⟩ := recordWord_fields hcause
      exact ⟨hc, hin, hout, hframe⟩
    case noFault =>
      obtain ⟨-, -, -, -, habove⟩ := recordWord_fields hcause
      simp only [field, habove, hfault]
      rfl

/-! ## CLEAR_SWITCH -/

/-- What CLEAR_SWITCH clears, and nothing else of the part (R33, R161). -/
theorem State.clearTraffic_frame (s : State) : s.clearTraffic = { s with
    pool := { s.pool with freeList := List.finRange 1024, held := PerPort.const 0, refillPointer := .l6 }
    descs := s.clearTraffic.descs
    rotation := s.clearTraffic.rotation
    outs := s.clearTraffic.outs } := by
  simp only [State.clearTraffic]

theorem State.clearTraffic_descs (s : State) : s.clearTraffic.descs = Vector.replicate 192 none := by
  simp only [State.clearTraffic]

theorem State.clearTraffic_rotation (s : State) (n : EntryId) : s.clearTraffic.rotation[n] = .p6 := by
  simp [State.clearTraffic]

section
variable {s : State}

theorem exec_clearSwitch_of_ready (h : HostReady s) : exec .clearSwitch s = .next s.take.runClearSwitch :=
  congrArg Host.Outcome.next (State.commandWrite_ready h State.runClearSwitch)

theorem State.runClearSwitch_active (h : ∃ p, (s.links.get p).state ≠ .disabled) :
    s.runClearSwitch = s.endPlain .linksActive := by
  obtain ⟨p, hp⟩ := h
  have hall : s.allDisabled = false := Bool.eq_false_iff.2 fun h => hp (State.allDisabled_iff.1 h p)
  rw [State.runClearSwitch, hall]
  rfl

theorem State.runClearSwitch_clears (h : ∀ p, (s.links.get p).state = .disabled) :
    s.runClearSwitch = s.clearTraffic.setEngine (.executingClear (192 - s.freeDescriptors)) := by
  rw [State.runClearSwitch, State.allDisabled_iff.2 h]
  rfl

end

/-- The frames that CLEAR_SWITCH clears are the descriptors in use (R35, R161). -/
theorem State.usedDescriptors_eq (s : State) :
    192 - s.freeDescriptors = (List.finRange 192).countP fun d => (s.desc d).isSome := by
  have hsplit := List.length_eq_countP_add_countP (fun d => (s.desc d).isSome) (l := List.finRange 192)
  have hfree : ((List.finRange 192).countP fun d => decide ¬ (s.desc d).isSome = true) = s.freeDescriptors := by
    rw [State.freeDescriptors_eq]
    refine List.countP_congr fun d _ => ?_
    cases s.desc d <;> simp
  rw [hfree, List.length_finRange] at hsplit
  omega

/-- The end of CLEAR_SWITCH with none in progress changes nothing. -/
theorem exec_clearSwitchEnd_elsewhere {s : State} (h : ∀ n, s.win.engine ≠ .executingClear n) :
    exec .clearSwitchEnd s = .next s := by
  simp only [exec, execClearSwitchEnd]
  cases he : s.win.engine with
  | executingClear n => exact absurd he (h n)
  | initialising | idle | executingSend | writePhase | readPhase => rfl

theorem exec_clearSwitchEnd_clearing {s : State} {n : Nat} (h : s.win.engine = .executingClear n) :
    exec .clearSwitchEnd s = .next (s.endCommand .ok ⟨BitVec.ofNat 16 n, 0, 0, 0⟩) := by
  simp only [exec, execClearSwitchEnd, h]
  rfl

/-- Settles O53: the refusal, the taking event field by field, and the end. -/
theorem clearSwitchAndItsEnd : Obligations.ClearSwitchAndItsEnd := by
  refine fun s => ⟨fun hready hactive => ?refused, fun hready hdisabled => ?cleared,
    fun n he => exec_clearSwitchEnd_clearing he, exec_clearSwitchEnd_elsewhere⟩
  case refused =>
    rw [exec_clearSwitch_of_ready hready, State.runClearSwitch_active (s := s.take) hactive, State.take_endPlain]
  case cleared =>
    have hexec := exec_clearSwitch_of_ready hready
    rw [State.runClearSwitch_clears (s := s.take) hdisabled, State.usedDescriptors_eq] at hexec
    exact ⟨_, hexec, (congrArg (State.setEngine · _) s.take.clearTraffic_frame).trans rfl,
      desc_of_replicate s.take.clearTraffic_descs, s.take.clearTraffic_rotation, s.take.clearTraffic_out .p0,
      fun p => (s.take.clearTraffic_out p.port).trans (if_neg p.port_ne_p0)⟩

/-! ## CLEAR_COUNTERS -/

/-- CLEAR_SWITCH once taken touches no counter (R159, R161). -/
theorem State.runClearSwitch_counters (s : State) :
    s.runClearSwitch.counters = s.counters ∧ s.runClearSwitch.linkFaults = s.linkFaults := by
  unfold State.runClearSwitch
  split
  · exact ⟨rfl, rfl⟩
  · rw [State.setEngine_counters, State.setEngine_linkFaults]
    exact ⟨(congrArg State.counters s.clearTraffic_frame).trans rfl,
      (congrArg State.linkFaults s.clearTraffic_frame).trans rfl⟩

theorem exec_clearSwitch_counters {s t : State} (h : exec .clearSwitch s = .next t) :
    t.counters = s.counters ∧ t.linkFaults = s.linkFaults := by
  have ht : t = s.commandWrite State.runClearSwitch := (Host.Outcome.next.inj h).symm
  rcases s.commandWrite_cases State.runClearSwitch with ⟨-, hw⟩ | ⟨-, hw⟩ | ⟨-, -, hw⟩ <;> rw [ht, hw]
  · exact ⟨rfl, rfl⟩
  · exact s.take.runClearSwitch_counters
  · exact ⟨rfl, rfl⟩

theorem exec_clearSwitchEnd_counters {s t : State} (h : exec .clearSwitchEnd s = .next t) :
    t.counters = s.counters ∧ t.linkFaults = s.linkFaults := by
  by_cases hclear : ∃ n, s.win.engine = .executingClear n
  · obtain ⟨n, hn⟩ := hclear
    rw [exec_clearSwitchEnd_clearing hn] at h
    cases h
    exact ⟨rfl, rfl⟩
  · rw [exec_clearSwitchEnd_elsewhere (not_exists.1 hclear)] at h
    cases h
    exact ⟨rfl, rfl⟩

/-- Settles O51, by the three commands. -/
theorem clearCountersClearsAll : Obligations.ClearCountersClearsAll := by
  refine fun s => ⟨fun hready => congrArg Host.Outcome.next (State.commandWrite_ready hready State.runClearCounters),
    fun c t hc hexec => ?_⟩
  rcases hc with rfl | rfl
  · exact exec_clearSwitch_counters hexec
  · exact exec_clearSwitchEnd_counters hexec

/-! ## Unknown codes -/

/-- The sixteen codes of section 11.4. -/
def commandCodes : List Nat :=
  [0x0001, 0x0002, 0x0003, 0x0004, 0x0010, 0x0011, 0x0020, 0x0021, 0x0022, 0x0023, 0x0030, 0x0031, 0x0040, 0x0041,
    0x0042, 0x0050]

/-- Each code names a command; LINK_CONTROL is one of its three rows, whatever PARAM1 holds. -/
theorem commandOfCode_ne_badCommand (param1 : Word) :
    ∀ k ∈ commandCodes, commandOfCode param1 (BitVec.ofNat 16 k) ≠ .badCommand := by
  have hcontrol : commandOfCode param1 0x0020#16 ≠ .badCommand := by
    show (if param1 = 2#16 then Instr.disable else if param1 = 3#16 then .restart else .enable) ≠ .badCommand
    split
    · exact Instr.noConfusion
    · split <;> exact Instr.noConfusion
  simp only [commandCodes, List.forall_mem_cons, List.not_mem_nil, false_imp_iff, implies_true, and_true]
  refine ⟨?_, ?_, ?_, ?_, ?_, ?_, hcontrol, ?_, ?_, ?_, ?_, ?_, ?_, ?_, ?_, ?_⟩ <;> exact Instr.noConfusion

/-- A word names no command exactly when it is none of the sixteen codes (R143, R181). -/
theorem commandOfCode_eq_badCommand_iff (param1 w : Word) :
    commandOfCode param1 w = .badCommand ↔ w.toNat ∉ commandCodes := by
  refine ⟨fun h hw => commandOfCode_ne_badCommand param1 _ hw ?_, fun hw => ?_⟩
  · rw [BitVec.ofNat_toNat, BitVec.setWidth_eq, h]
  · have hne : ∀ k ∈ commandCodes, ¬ w = BitVec.ofNat 16 k := fun k hk h =>
      hw (by rwa [(word_eq_iff ((by decide : ∀ j ∈ commandCodes, j < 65536) k hk)).1 h])
    simp only [commandCodes, List.forall_mem_cons] at hne
    simp only [commandOfCode, hne, if_false]

/-- Settles O7: the codes one by one, and the command in IDLE and elsewhere. -/
theorem unknownCommandCode : Obligations.UnknownCommandCode := by
  refine ⟨fun param1 w => ⟨rfl, commandOfCode_eq_badCommand_iff param1 w, rfl, rfl, rfl, rfl, rfl, rfl, rfl, rfl, rfl,
    rfl, rfl, rfl, rfl, rfl, rfl, rfl, rfl, rfl⟩, fun s ha => ⟨fun he => ?taken, fun he => ?discarded⟩⟩
  case taken =>
    have hexec : exec .badCommand s = .next (s.take.endPlain .badCommand) :=
      congrArg Host.Outcome.next (State.commandWrite_ready ⟨ha, he⟩ fun t => t.endPlain .badCommand)
    refine ⟨_, hexec, rfl, (State.statusWord_bit_iff 3).2 ?_, State.readRegister_error ha⟩
    exact .inr (.inr (.inr (.inl ⟨rfl, Code.noConfusion⟩)))
  case discarded => exact congrArg Host.Outcome.next (State.commandWrite_discarded ha he _)

end Sys2Proof.Machine
end

section
/-! PROOFS. The record list and its two counters (sections 9.1, 9.2 and 8.8 of the manual): what a record made does to
them, and what resets and commands leave. -/

namespace Sys2Proof.Machine

set_option Elab.async false

/-! ## A record made -/

theorem RecordLog.append_of_room {l : RecordLog} (h : l.list.length < 16) (r : Record) :
    l.append r =
      { list := l.list ++ [{ r with seq := l.nextSeq }], nextSeq := l.nextSeq + 1, overflow := l.overflow } :=
  if_pos h

theorem RecordLog.append_of_full {l : RecordLog} (h : 16 ≤ l.list.length) (r : Record) :
    l.append r = { list := l.list, nextSeq := l.nextSeq + 1, overflow := min (l.overflow + 1) 255 } :=
  if_neg (Nat.not_lt.2 h)

/-! ## What resets and commands leave -/

theorem exec_hardReset_records {s t : State} (h : exec .hardReset s = .next t) : t.records = RecordLog.reset := by
  have ht : s.hardResetValues.modWin (fun w => { w with resetApplied := true }) = t := Host.Outcome.next.inj h
  rw [← ht]
  rfl

theorem exec_softReset_records {s t : State} {w : Word} (ha : s.win.resetApplied = false) (hw : w.getLsbD 15 = true)
    (h : exec (.softReset w) s = .next t) : t.records = RecordLog.reset := by
  have ht : s.controlWrite w = t := Host.Outcome.next.inj h
  rw [← ht, State.controlWrite_request ha hw, State.softResetValues_eq]
  rfl

/-- A COMMAND write does to the records what its command does to them: taken, ignored or discarded with OVERRUN. -/
theorem State.commandWrite_records {s : State} {run : State → State} {P : RecordLog → Prop} (hs : P s.records)
    (hrun : P (run s.take).records) : P (s.commandWrite run).records := by
  rcases s.commandWrite_cases run with ⟨-, h⟩ | ⟨-, h⟩ | ⟨-, -, h⟩ <;> rw [h]
  · exact hs
  · exact hrun
  · exact hs

/-- TAKE_RECORD takes at most the oldest record (R160). -/
theorem State.runTakeRecord_records (s : State) :
    s.runTakeRecord.records = { s.records with list := s.records.list.tail } := by
  cases hlist : s.records.list with
  | nil =>
    rw [State.runTakeRecord_nil hlist, State.endCommand_records, List.tail_nil, ← hlist]
  | cons r rest => rw [State.runTakeRecord_cons hlist, State.endCommand_records, List.tail_cons]

theorem exec_takeRecord_records {s t : State} (h : exec .takeRecord s = .next t) :
    t.records.nextSeq = s.records.nextSeq ∧ t.records.overflow = s.records.overflow := by
  have ht : s.commandWrite State.runTakeRecord = t := Host.Outcome.next.inj h
  rw [← ht]
  refine State.commandWrite_records (P := fun l => l.nextSeq = s.records.nextSeq ∧ l.overflow = s.records.overflow)
    ⟨rfl, rfl⟩ ?_
  rw [State.runTakeRecord_records]
  exact ⟨rfl, rfl⟩

theorem exec_clearCounters_records {s t : State} (h : exec .clearCounters s = .next t) : t.records = s.records := by
  have ht : s.commandWrite State.runClearCounters = t := Host.Outcome.next.inj h
  rw [← ht]
  exact State.commandWrite_records (P := (· = s.records)) rfl rfl

theorem State.runClearSwitch_records (s : State) : s.runClearSwitch.records = s.records := by
  unfold State.runClearSwitch
  split
  · rfl
  · rw [State.setEngine_records]
    exact (congrArg State.records s.clearTraffic_frame).trans rfl

theorem exec_clearSwitch_records {s t : State} (h : exec .clearSwitch s = .next t) : t.records = s.records := by
  have ht : s.commandWrite State.runClearSwitch = t := Host.Outcome.next.inj h
  rw [← ht]
  exact State.commandWrite_records (P := (· = s.records)) rfl s.take.runClearSwitch_records

theorem exec_clearSwitchEnd_records {s t : State} (h : exec .clearSwitchEnd s = .next t) : t.records = s.records := by
  by_cases hclear : ∃ n, s.win.engine = .executingClear n
  · obtain ⟨n, hn⟩ := hclear
    rw [exec_clearSwitchEnd_clearing hn] at h
    cases h
    rfl
  · rw [exec_clearSwitchEnd_elsewhere (not_exists.1 hclear)] at h
    cases h
    rfl

/-! ## The overflow count that TAKE_RECORD reports -/

/-- The high byte of RESULT2 is the overflow count: what stands below it is a DEST (R182). -/
theorem overflow_of_result {dest overflow : Nat} (hdest : dest < 256) (h : overflow ≤ 255) :
    (BitVec.ofNat 16 (dest + 256 * overflow)).toNat / 256 = overflow := by
  rw [BitVec.toNat_ofNat]
  omega

theorem State.runTakeRecord_overflow {s : State} (h : s.records.overflow ≤ 255) :
    s.runTakeRecord.win.results.w2.toNat / 256 = s.records.overflow := by
  cases hlist : s.records.list with
  | nil =>
    rw [State.runTakeRecord_nil hlist, State.endCommand_win, ← Nat.zero_add (256 * _)]
    exact overflow_of_result (Nat.zero_lt_succ _) h
  | cons r rest =>
    have hdest : (r.frame.map fun f => f.1.toNat).getD 0 < 256 := by
      cases r.frame with
      | none => exact Nat.zero_lt_succ _
      | some f => exact f.1.isLt
    rw [State.runTakeRecord_cons hlist, State.endCommand_win, recordResults_eq]
    exact overflow_of_result hdest h

/-- Settles O16: a record made by the room in the list, then the resets and the four commands one by one. -/
theorem recordSequenceAndOverflow : Obligations.RecordSequenceAndOverflow := by
  refine ⟨fun l r => ⟨fun h => RecordLog.append_of_room h r, fun h hlt => ?counted, fun h hmax => ?stays⟩, rfl,
    fun s w t => ⟨fun h => ?hard, fun ha hw h => ?soft, exec_takeRecord_records, fun hready hmax h => ?reported,
      exec_clearCounters_records, exec_clearSwitch_records, exec_clearSwitchEnd_records⟩⟩
  case counted => rw [RecordLog.append_of_full h, Nat.min_eq_left hlt]
  case stays => rw [RecordLog.append_of_full h, hmax]; rfl
  case hard => rw [exec_hardReset_records h]; exact ⟨rfl, rfl⟩
  case soft => rw [exec_softReset_records ha hw h]; exact ⟨rfl, rfl⟩
  case reported =>
    rw [exec_takeRecord_of_ready hready] at h
    cases h
    exact State.runTakeRecord_overflow (s := s.take) hmax

end Sys2Proof.Machine
end

section
/-! LAWS. The frame memory, the record list and the Destination Table (log entry 1, Laws 10 and 12, R53, R54 and R168
of the manual): what it is to keep their laws, and the changes that do: bytes stored, a record made, a rotation pointer
moved or all of them reset, an entry written. -/

namespace Sys2Proof.Machine

set_option Elab.async false

/-! ## What a change keeps -/

/-- What the three laws read: the bytes of the cells, the record list, the entries and their rotation pointers. -/
def State.holdings (s : State) : Memory × RecordLog × Vector Entry 256 × Vector Port 256 :=
  (s.cells, s.records, s.table, s.rotation)

/-- What leads from `s` to `t` keeps the laws of the memory, of the records and of the table, each without the
others. -/
structure HoldingsKept (s t : State) : Prop where
  memory : Memory.wf s.cells → Memory.wf t.cells
  records : RecordLaws s → RecordLaws t
  table : TableLaws s → TableLaws t

theorem HoldingsKept.refl (s : State) : HoldingsKept s s := ⟨id, id, id⟩

theorem HoldingsKept.trans {s t u : State} (h : HoldingsKept s t) (h' : HoldingsKept t u) : HoldingsKept s u :=
  ⟨h'.memory ∘ h.memory, h'.records ∘ h.records, h'.table ∘ h.table⟩

theorem recordLaws_congr {s t : State} (records : t.records = s.records) (h : RecordLaws s) : RecordLaws t :=
  ⟨records ▸ h.cap, records ▸ h.overflow⟩

theorem tableLaws_congr {s t : State} (table : t.table = s.table) (rotation : t.rotation = s.rotation)
    (h : TableLaws s) : TableLaws t where
  anchored := by rw [table]; exact h.anchored
  pointers := by rw [table, rotation]; exact h.pointers
  members := by rw [table]; exact h.members

/-- Nothing changes that the laws read. -/
theorem holdingsKept_of_same {s t : State} (h : t.holdings = s.holdings) : HoldingsKept s t := by
  obtain ⟨cells, records, table, rotation⟩ : t.cells = s.cells ∧ t.records = s.records ∧ t.table = s.table ∧
      t.rotation = s.rotation := by
    simpa [State.holdings] using h
  exact ⟨fun h => by rw [cells]; exact h, recordLaws_congr records, tableLaws_congr table rotation⟩

/-! ## Bytes, records and rotation pointers -/

/-- The bytes of the cells change, in canonical form. -/
theorem holdingsKept_of_cells {s t : State} (cells : Memory.wf s.cells → Memory.wf t.cells)
    (h : t = { s with cells := t.cells }) : HoldingsKept s t := by
  rw [h]
  exact ⟨cells, recordLaws_congr rfl, tableLaws_congr rfl rfl⟩

/-- A record is made: the list keeps its bound, and the overflow count stays at 255 (R166, R168). -/
theorem holdingsKept_record (s : State) (r : Record) : HoldingsKept s (s.record r) where
  memory := id
  records h := by
    refine ⟨s.records.append_list_length r h.cap, ?_⟩
    rw [State.record_records]
    rcases Nat.lt_or_ge s.records.list.length 16 with hroom | hfull
    · rw [RecordLog.append_of_room hroom]
      exact h.overflow
    · rw [RecordLog.append_of_full hfull]
      exact Nat.min_le_right ..
  table := tableLaws_congr rfl rfl

/-- The entries stay and every rotation pointer is 6 (R98, R161). -/
theorem TableLaws.unrotated {s t : State} (h : TableLaws s) (table : t.table = s.table)
    (rotation : ∀ n : EntryId, t.rotation[n] = .p6) : TableLaws t where
  anchored := by rw [table]; exact h.anchored
  pointers n _ := rotation n
  members := by rw [table]; exact h.members

/-- The rotation pointer of a SPREAD entry moves (R66). -/
theorem holdingsKept_setPointer {s : State} {dest : Byte} (hk : (s.entry dest).kind = .spread) (p : Port) :
    HoldingsKept s (s.setPointer dest p) where
  memory := id
  records := recordLaws_congr rfl
  table h := {
    anchored := h.anchored
    pointers := fun n hn => by
      have hne : dest.toNat ≠ n.val := fun heq => hn (by simpa [State.entry, heq] using hk)
      simpa [State.setPointer, Vector.getElem_set, hne] using h.pointers n hn
    members := h.members }

/-! ## Table writes -/

/-- The members of an entry are those its kind asks for (R52). -/
def Entry.Lawful (e : Entry) : Prop :=
  (e.kind = .invalid → e = Entry.invalid) ∧ (e.kind = .single → (members e.ports).length = 1) ∧
    (e.kind ≠ .invalid → 1 ≤ (members e.ports).length)

/-- The tests of R55 let only lawful contents through. -/
theorem entryOfWords_lawful {w : Words4} {e : Entry} (h : entryOfWords w = some e) : e.Lawful := by
  unfold entryOfWords at h
  obtain ⟨kind, -, h⟩ := Option.bind_eq_some_iff.1 h
  split at h
  · cases h
    exact ⟨fun _ => rfl, nofun, fun hne => absurd rfl hne⟩
  rename_i hkind
  obtain ⟨ports, -, h⟩ := Option.bind_eq_some_iff.1 h
  obtain ⟨rule, -, h⟩ := Option.bind_eq_some_iff.1 h
  split at h
  · cases h
  rename_i hcount
  cases h
  refine ⟨fun hk => absurd hk hkind, fun hk => ?_, fun _ => ?_⟩
  · exact by_contra fun hne => hcount (Or.inl ⟨hk, hne⟩)
  · exact Nat.one_le_iff_ne_zero.2 fun hz => hcount (Or.inr hz)

/-- What TABLE_WRITE writes: lawful contents, and not in an anchored entry (R54, R55). -/
theorem tableWriteEntry_ok {w : Words4} {n : EntryId} {e : Entry} (h : tableWriteEntry w = .ok (n, e)) :
    (n.val < 240 ∨ 247 < n.val) ∧ e.Lawful := by
  rcases Nat.lt_or_ge w.w0.toNat 256 with hlt | hge
  swap
  · rw [tableWriteEntry_range hge] at h
    cases h
  by_cases hanchor : 240 ≤ w.w0.toNat ∧ w.w0.toNat ≤ 247
  · rw [tableWriteEntry_anchored hanchor.1 hanchor.2] at h
    cases h
  have hfree : w.w0.toNat < 240 ∨ 247 < w.w0.toNat := by omega
  rw [tableWriteEntry_eq (n := ⟨w.w0.toNat, hlt⟩) rfl hfree] at h
  cases he : entryOfWords w with
  | none => rw [he] at h; cases h
  | some x =>
    rw [he] at h
    cases h
    exact ⟨hfree, entryOfWords_lawful he⟩

/-- An entry that is not anchored takes lawful contents, and its rotation pointer becomes 6 (R53, R55). -/
theorem TableLaws.write {s t : State} (h : TableLaws s) {n : EntryId} {e : Entry}
    (table : t.table = s.table.set n.val e n.isLt) (rotation : t.rotation = s.rotation.set n.val .p6 n.isLt)
    (hfree : n.val < 240 ∨ 247 < n.val) (he : e.Lawful) : TableLaws t where
  anchored k := by
    have hne : n.val ≠ 240 + k.val := by omega
    simpa [table, Vector.getElem_set, hne] using h.anchored k
  pointers m hm := by
    by_cases hmn : n.val = m.val
    · simp [rotation, hmn]
    · simp only [table, rotation, Fin.getElem_fin, Vector.getElem_set, hmn, if_false] at hm ⊢
      exact h.pointers m hm
  members m := by
    by_cases hmn : n.val = m.val
    · have hentry : t.table[m] = e := by simp [table, hmn]
      obtain ⟨hinvalid, hsingle, hother⟩ := he
      rw [hentry]
      cases hk : e.kind with
      | invalid => exact hinvalid hk
      | single => exact hsingle hk
      | spread | fanout => exact hother (by simp [hk])
    · have hentry : t.table[m] = s.table[m] := by simp [table, hmn]
      rw [hentry]
      exact h.members m

end Sys2Proof.Machine
end

section
/-! LAWS. The memory, the records and the table under the shared operations: releases and purges, links lost and
entered, route resolution, and the frame in progress on a link. -/

namespace Sys2Proof.Machine

set_option Elab.async false

/-! ## Releases and purges -/

theorem holdingsKept_releaseCopy (s : State) (p : Port) (d : DescId) : HoldingsKept s (s.releaseCopy p d) :=
  holdingsKept_of_same ((congrArg State.holdings (s.releaseCopy_frame p d)).trans rfl)

theorem holdingsKept_freeDesc (s : State) (d : DescId) : HoldingsKept s (s.freeDesc d) :=
  holdingsKept_of_same ((congrArg State.holdings (s.freeDesc_frame d)).trans rfl)

theorem holdingsKept_purge (s : State) (p : Port) : HoldingsKept s (s.purge p) :=
  holdingsKept_of_same ((congrArg State.holdings (s.purge_frame p)).trans rfl)

theorem holdingsKept_markDeparting (s : State) (p : Port) (d : DescId) : HoldingsKept s (s.markDeparting p d) :=
  holdingsKept_of_same ((congrArg State.holdings (s.markDeparting_frame p d)).trans rfl)

theorem holdingsKept_countLost (s : State) (p : Port) (n : Nat) : HoldingsKept s (s.countLost p n) :=
  holdingsKept_of_same rfl

theorem holdingsKept_countDelivered (s : State) (p : Port) : HoldingsKept s (s.countDelivered p) :=
  holdingsKept_of_same rfl

theorem holdingsKept_purgeLost (s : State) (p : LinkId) : HoldingsKept s (s.purgeLost p) := by
  unfold State.purgeLost
  simp only
  split
  · exact holdingsKept_purge ..
  · exact ((holdingsKept_purge ..).trans (holdingsKept_countLost ..)).trans (holdingsKept_record ..)

theorem holdingsKept_dropDeparting (s : State) (p : LinkId) : HoldingsKept s (s.dropDeparting p) := by
  unfold State.dropDeparting
  cases (s.outs.get p.port).departing with
  | none => exact .refl s
  | some dep =>
    have hslot : HoldingsKept s ((s.clearSlot p.port).stopStall p) := holdingsKept_of_same rfl
    exact hslot.trans (holdingsKept_releaseCopy ..)

theorem holdingsKept_dropHostCopy (s : State) (dep : Departure) : HoldingsKept s (s.dropHostCopy dep) := by
  have hslot : HoldingsKept s (s.clearSlot .p0) := holdingsKept_of_same rfl
  exact hslot.trans (holdingsKept_releaseCopy ..)

/-! ## Links lost and entered -/

theorem holdingsKept_outputAtFault (s : State) (p : LinkId) : HoldingsKept s (s.outputAtFault p) := by
  obtain ⟨u, hu, heq⟩ := s.outputAtFault_eq p
  have hcut : HoldingsKept s u :=
    (holdingsKept_dropDeparting s p).trans (holdingsKept_of_same ((congrArg State.holdings hu).trans rfl))
  rw [heq]
  split
  · exact (hcut.trans (holdingsKept_purgeLost u p)).trans (holdingsKept_of_same rfl)
  · exact hcut.trans (holdingsKept_of_same rfl)

/-- The link's part of a fault leaves all three alone but for the LINK_FAULT record (R115). -/
theorem State.faulted_holdings (s : State) (p : LinkId) (kind : FaultKind) (lost : Option (Option Header)) :
    ∃ r, (s.faulted p kind lost).holdings = (if kind = .restartReq then s else s.record r).holdings := by
  refine ⟨linkFaultRecord p kind lost (decide ((s.links.get p).state = .run) && (s.outs.get p.port).departing.isSome),
    (congrArg (fun u : State => ({ u with records := (s.faulted p kind lost).records } : State).holdings)
      (s.dropReceived_frame p)).trans ?_⟩
  rw [State.faulted]
  split <;> rfl

/-- Entry to FAULTED makes at most the LINK_FAULT record, then the output may make its LINK_LOST record (R91, R115). -/
theorem holdingsKept_enterFaulted (s : State) (p : LinkId) (kind : FaultKind) (lost : Option (Option Header)) :
    HoldingsKept s (s.enterFaulted p kind lost) := by
  obtain ⟨r, hfaulted⟩ := s.faulted_holdings p kind lost
  have hrecord : HoldingsKept s (if kind = .restartReq then s else s.record r) := by
    split
    · exact .refl s
    · exact holdingsKept_record s r
  have hlink : HoldingsKept s (s.faulted p kind lost) := hrecord.trans (holdingsKept_of_same hfaulted)
  rw [State.enterFaulted_eq_faulted]
  split
  · exact hlink.trans (holdingsKept_outputAtFault ..)
  · exact hlink

theorem holdingsKept_fault (s : State) (p : LinkId) (kind : FaultKind) : HoldingsKept s (s.fault p kind) :=
  holdingsKept_enterFaulted ..

theorem holdingsKept_closeLink (s : State) (p : LinkId) : HoldingsKept s (s.closeLink p) := by
  have hclosing : HoldingsKept s (s.closing p) := 
    holdingsKept_of_same ((congrArg State.holdings (s.dropReceived_frame p)).trans rfl)
  rw [State.closeLink_eq_closing]
  exact ((hclosing.trans (holdingsKept_dropDeparting ..)).trans (holdingsKept_purge ..)).trans
    (holdingsKept_of_same rfl)

theorem holdingsKept_disableLink (s : State) (p : LinkId) : HoldingsKept s (s.disableLink p) := by
  rcases s.disableLink_cases p with ⟨-, h⟩ | ⟨-, h⟩ <;> rw [h]
  · exact .refl s
  · exact holdingsKept_closeLink s p

theorem State.enableLink_holdings (s : State) (p : LinkId) : (s.enableLink p).holdings = s.holdings := by
  unfold State.enableLink
  cases (s.links.get p).state with
  | disabled | listen | sync | run => rfl
  | faulted => cases (s.links.get p).recoveryTimer <;> rfl

theorem holdingsKept_restartLink (s : State) (p : LinkId) : HoldingsKept s (s.restartLink p) := by
  unfold State.restartLink
  cases (s.links.get p).state with
  | disabled | listen => exact .refl s
  | sync | run => exact holdingsKept_fault ..
  | faulted => exact holdingsKept_of_same (s.enableLink_holdings p)

/-! ## Route resolution -/

/-- A resolution moves a rotation pointer only for a SPREAD entry (R66). -/
theorem State.decideRoute_pointer {s : State} {source : Port} {h : Header} {outputs : List Port}
    {refused : List (Port × Code)} {p : Port} (hd : s.decideRoute source h = .place outputs refused (some p)) :
    (s.entry h.dest).kind = .spread := by
  obtain ⟨cands, hc, -⟩ := State.decideRoute_candidates hd
  cases hk : (s.entry h.dest).kind with
  | spread => rfl
  | invalid => rw [State.decideRoute_invalid hk] at hd; cases hd
  | single => rw [State.decideRoute_single hk hc] at hd; cases hd
  | fanout => rw [State.decideRoute_fanout hk hc] at hd; cases hd

theorem holdingsKept_reportAllRefused (s : State) (source : Port) (h : Header) (ms : List (Port × Code)) :
    HoldingsKept s (s.reportAllRefused source h ms) := by
  induction ms generalizing s with
  | nil => exact .refl s
  | cons m rest ih =>
    have hone : HoldingsKept s (s.reportRefused source h m) := by
      unfold State.reportRefused
      simp only
      split
      · exact (holdingsKept_countLost ..).trans (holdingsKept_record ..)
      · exact holdingsKept_countLost ..
    exact hone.trans (ih _)

theorem holdingsKept_resolve (s : State) (d : DescId) (source : Port) (h : Header) :
    HoldingsKept s (s.resolve d source h).2 := by
  have hcount : HoldingsKept s (s.countFrameIn source) := holdingsKept_of_same rfl
  unfold State.resolve
  cases hd : s.decideRoute source h with
  | discard cause =>
    have hdrop := (hcount.trans (holdingsKept_freeDesc _ d)).trans
      (holdingsKept_of_same (t := ((s.countFrameIn source).freeDesc d).countDiscard source) rfl)
    simp only
    split
    · exact hdrop.trans (holdingsKept_record ..)
    · exact hdrop
  | place outputs refused pointer =>
    have hframe := (s.countFrameIn source).placeCopies_frame d (copyClass (s.entry h.dest).rule h.cls) outputs
    have hplaced := hcount.trans (holdingsKept_of_same ((congrArg State.holdings hframe).trans rfl))
    cases pointer with
    | none => exact hplaced.trans (holdingsKept_reportAllRefused ..)
    | some p =>
      have hspread := State.decideRoute_pointer hd
      refine (hplaced.trans (holdingsKept_setPointer ?_ p)).trans (holdingsKept_reportAllRefused ..)
      exact (congrArg (fun u : State => (u.entry h.dest).kind) hframe).trans hspread

/-! ## The frame in progress -/

theorem holdingsKept_writeFrameByte (s : State) (chain : List CellId) (k : Nat) (b : Byte) :
    HoldingsKept s (s.writeFrameByte chain k b) :=
  holdingsKept_of_cells (s.writeFrameByte_wf chain k b) (s.writeFrameByte_frame chain k b)

theorem holdingsKept_storeByte (s : State) (f : RxFrame) (b : Byte) : HoldingsKept s (s.storeByte f b) := by
  unfold State.storeByte
  cases f.disposition with
  | storing d => exact holdingsKept_writeFrameByte ..
  | sinkingNoDescriptor | sinkingSurplus => exact .refl s

theorem holdingsKept_setRx (s : State) (p : LinkId) (f : Option RxFrame) : HoldingsKept s (s.setRx p f) :=
  holdingsKept_of_same rfl

theorem holdingsKept_discardAtReception (s : State) (p : LinkId) (f : RxFrame) (cause : Code) :
    HoldingsKept s (s.discardAtReception p f cause) := by
  have hdrop : HoldingsKept s (s.dropFrame f) := by
    unfold State.dropFrame
    cases f.disposition with
    | storing d => exact holdingsKept_freeDesc s d
    | sinkingNoDescriptor | sinkingSurplus => exact .refl s
  have hcount : HoldingsKept (s.dropFrame f) ((s.dropFrame f).countDiscard p.port) := holdingsKept_of_same rfl
  exact (hdrop.trans hcount).trans (holdingsKept_record ..)

/-- DATA at position 0: a fault, or a cell moved and, in a chain, its first byte stored (R24 to R26). -/
theorem holdingsKept_startFrame (s : State) (p : LinkId) (b : Byte) : HoldingsKept s (s.startFrame p b) := by
  rcases s.takeReserveCell_cases p with hnone | ⟨o, c, rest, ho, hr, -⟩
  · rw [State.startFrame_refused hnone]
    exact holdingsKept_enterFaulted ..
  cases hfree : s.lowestFree with
  | none =>
    rw [State.startFrame_sinks ho hr hfree]
    exact holdingsKept_of_same rfl
  | some d =>
    have hclaim : HoldingsKept s (s.claimCell p ⟨rest, o, (s.pool.links.get p).pendingCredit⟩ d c) :=
      holdingsKept_of_same rfl
    rw [State.startFrame_claims ho hr hfree]
    exact (hclaim.trans (holdingsKept_writeFrameByte ..)).trans (holdingsKept_setRx ..)

theorem holdingsKept_headerData (s : State) (p : LinkId) (f : RxFrame) (b : Byte) :
    HoldingsKept s (s.headerData p f b) := by
  have hheader (h : Header) : HoldingsKept s (s.giveHeader f h) :=
    holdingsKept_of_same ((congrArg State.holdings (s.giveHeader_frame f h)).trans rfl)
  by_cases h3 : f.position < 3
  · rw [State.headerData_early _ _ _ _ h3]
    exact (holdingsKept_storeByte ..).trans (holdingsKept_setRx ..)
  · rw [State.headerData_late _ _ _ _ h3]
    simp only
    split
    · exact holdingsKept_enterFaulted ..
    · exact ((hheader _).trans (holdingsKept_storeByte ..)).trans (holdingsKept_setRx ..)

/-- DATA below the stored size: a byte stored, or a group start with its cell joined, sunk or refused (R24 to R26). -/
theorem holdingsKept_bodyData (s : State) (p : LinkId) {f : RxFrame} (hsurplus : f.disposition ≠ .sinkingSurplus)
    {h : Header} (hlt : f.position < h.size) (b : Byte) : HoldingsKept s (s.bodyData p f h b) := by
  by_cases hg : f.position % 64 = 0
  case neg =>
    rw [State.bodyData_within _ _ _ _ _ hg]
    exact (holdingsKept_storeByte ..).trans (holdingsKept_setRx ..)
  rcases s.takeReserveCell_cases p with hnone | ⟨o, c, rest, ho, hr, -⟩
  · have hfault : s.bodyData p f h b = s.fault p .rxOverrun := by
      simp only [State.bodyData, isGroupStart_of_mod hg hlt, hnone, if_true]
    rw [hfault]
    exact holdingsKept_fault ..
  have hsunk : HoldingsKept s
      ((s.setLinkPool p ⟨rest, o, (s.pool.links.get p).pendingCredit⟩).appendFree [c]) := holdingsKept_of_same rfl
  cases hd : f.disposition with
  | sinkingSurplus => exact absurd hd hsurplus
  | sinkingNoDescriptor =>
    rw [s.bodyData_sinks p f h b hg hlt ho hr hd]
    exact hsunk.trans (holdingsKept_setRx ..)
  | storing d =>
    cases hx : s.desc d with
    | none =>
      rw [s.bodyData_orphan p f h b hg hlt ho hr hd hx]
      exact (hsunk.trans (holdingsKept_storeByte ..)).trans (holdingsKept_setRx ..)
    | some x =>
      have hjoin : HoldingsKept s (s.joinCell p ⟨rest, o, (s.pool.links.get p).pendingCredit⟩ d x c) :=
        holdingsKept_of_same rfl
      rw [s.bodyData_joins p f h b hg hlt ho hr hd hx]
      exact (hjoin.trans (holdingsKept_writeFrameByte ..)).trans (holdingsKept_setRx ..)

theorem holdingsKept_knownData (s : State) (p : LinkId) {f : RxFrame} (hsurplus : f.disposition ≠ .sinkingSurplus)
    (h : Header) (b : Byte) : HoldingsKept s (s.knownData p f h b) := by
  unfold State.knownData
  split
  · rename_i hlt
    exact holdingsKept_bodyData s p hsurplus hlt b
  split
  · exact holdingsKept_setRx ..
  split
  · exact holdingsKept_setRx ..
  · exact (holdingsKept_discardAtReception ..).trans (holdingsKept_setRx ..)

theorem holdingsKept_dataInRun (s : State) (p : LinkId) (b : Byte) : HoldingsKept s (s.dataInRun p b) := by
  unfold State.dataInRun
  cases (s.links.get p).rx with
  | none => exact holdingsKept_startFrame ..
  | some f =>
    simp only
    split
    · exact .refl s
    · exact holdingsKept_headerData ..
    · rename_i hsurplus
      exact holdingsKept_knownData s p hsurplus _ b

theorem holdingsKept_endGoodInFrame (s : State) (p : LinkId) (f : RxFrame) :
    HoldingsKept s (s.endGoodInFrame p f) := by
  have hdiscard (cause : Code) : HoldingsKept s ((s.setRx p none).discardAtReception p f cause) :=
    (holdingsKept_setRx ..).trans (holdingsKept_discardAtReception ..)
  cases hd : f.disposition with
  | sinkingSurplus => simp only [State.endGoodInFrame, hd]; exact holdingsKept_setRx ..
  | sinkingNoDescriptor => simp only [State.endGoodInFrame, hd]; exact hdiscard _
  | storing d =>
    cases hh : f.header with
    | none => rw [State.endGoodInFrame_headerless _ _ _ hd hh]; exact hdiscard _
    | some h =>
      rw [State.endGoodInFrame_known _ _ _ hd hh]
      split
      · exact hdiscard _
      split
      · exact hdiscard _
      · exact (holdingsKept_setRx ..).trans (holdingsKept_resolve ..)

theorem holdingsKept_endCutInFrame (s : State) (p : LinkId) (f : RxFrame) : HoldingsKept s (s.endCutInFrame p f) := by
  unfold State.endCutInFrame
  cases f.disposition with
  | sinkingSurplus => exact holdingsKept_setRx ..
  | sinkingNoDescriptor | storing d => exact (holdingsKept_setRx ..).trans (holdingsKept_discardAtReception ..)

end Sys2Proof.Machine
end

section
/-! PROOFS. The memory, the records and the table under every command, and under every step (log entry 1, Laws 10 and
12, R53, R54 and R168 of the manual). -/

namespace Sys2Proof.Machine

set_option Elab.async false

/-! ## Link characters -/

section
variable {s t : State} {p : LinkId}

theorem holdingsKept_restartSilence (s : State) (p : LinkId) : HoldingsKept s (s.restartSilence p) :=
  holdingsKept_of_same rfl

theorem holdingsKept_dataReceived {b : Byte} (h : exec (.dataReceived p b) s = .next t) : HoldingsKept s t := by
  cases h
  cases (s.links.get p).state with
  | disabled | listen | faulted => exact .refl s
  | sync => exact holdingsKept_fault ..
  | run => exact (holdingsKept_restartSilence ..).trans (holdingsKept_dataInRun ..)

theorem holdingsKept_endGoodReceived (h : exec (.endGoodReceived p) s = .next t) : HoldingsKept s t := by
  cases h
  cases (s.links.get p).state with
  | disabled | listen | faulted => exact .refl s
  | sync => exact holdingsKept_fault ..
  | run =>
    cases (s.links.get p).rx with
    | none => exact holdingsKept_fault ..
    | some f => exact (holdingsKept_restartSilence ..).trans (holdingsKept_endGoodInFrame ..)

theorem holdingsKept_endCutReceived (h : exec (.endCutReceived p) s = .next t) : HoldingsKept s t := by
  cases h
  cases (s.links.get p).state with
  | disabled | listen | faulted => exact .refl s
  | sync => exact holdingsKept_fault ..
  | run =>
    cases (s.links.get p).rx with
    | none => exact holdingsKept_fault ..
    | some f => exact (holdingsKept_restartSilence ..).trans (holdingsKept_endCutInFrame ..)

theorem holdingsKept_codeError (s : State) (p : LinkId) : HoldingsKept s (s.codeError p) := by
  unfold State.codeError
  cases (s.links.get p).state with
  | disabled | listen | faulted => exact .refl s
  | sync | run => exact holdingsKept_fault ..

theorem holdingsKept_endWait (s : State) (p : LinkId) : HoldingsKept s (s.endWait p) := by
  unfold State.endWait
  cases (s.outs.get p.port).departing with
  | none => exact .refl s
  | some dep =>
    simp only
    split
    · exact holdingsKept_of_same rfl
    · exact .refl s

theorem holdingsKept_creditInRun (s : State) (p : LinkId) (n : Nat) : HoldingsKept s (s.creditInRun p n) := by
  unfold State.creditInRun
  split
  · exact (holdingsKept_of_same (by rfl)).trans (holdingsKept_endWait ..)
  · exact holdingsKept_fault ..

theorem holdingsKept_creditReceived {n : Nat} (h : exec (.creditReceived p n) s = .next t) : HoldingsKept s t := by
  cases h
  split
  · cases (s.links.get p).state with
    | disabled | listen | faulted => exact .refl s
    | sync => exact holdingsKept_of_same rfl
    | run => exact (holdingsKept_restartSilence ..).trans (holdingsKept_creditInRun ..)
  · exact holdingsKept_codeError s p

theorem holdingsKept_idleReceived (h : exec (.idleReceived p) s = .next t) : HoldingsKept s t := by
  cases h
  cases (s.links.get p).state with
  | disabled | listen | faulted => exact .refl s
  | sync | run => exact holdingsKept_of_same rfl

theorem holdingsKept_helloReceived (h : exec (.helloReceived p) s = .next t) : HoldingsKept s t := by
  cases h
  cases (s.links.get p).state with
  | disabled | faulted => exact .refl s
  | listen | sync => exact holdingsKept_of_same rfl
  | run => exact holdingsKept_fault ..

/-! ## Timers -/

theorem holdingsKept_silenceTimerExpiry (h : exec (.silenceTimerExpiry p) s = .next t) : HoldingsKept s t := by
  cases h
  split
  · cases (s.links.get p).state with
    | disabled | listen | faulted => exact .refl s
    | sync | run => exact holdingsKept_fault ..
  · exact .refl s

theorem holdingsKept_syncTimerExpiry (h : exec (.syncTimerExpiry p) s = .next t) : HoldingsKept s t := by
  cases h
  split
  · cases (s.links.get p).state with
    | disabled | listen | run | faulted => exact .refl s
    | sync => exact holdingsKept_fault ..
  · exact .refl s

theorem holdingsKept_recoveryTimerExpiry (h : exec (.recoveryTimerExpiry p) s = .next t) : HoldingsKept s t := by
  cases h
  split
  · cases (s.links.get p).state with
    | disabled | listen | sync | run => exact .refl s
    | faulted =>
      simp only
      split <;> exact holdingsKept_of_same rfl
  · exact .refl s

/-- A stalled copy is dropped, counted and recorded (R87). -/
theorem holdingsKept_stallTimerExpiry (h : exec (.stallTimerExpiry p) s = .next t) : HoldingsKept s t := by
  cases h
  split
  · cases (s.outs.get p.port).departing with
    | none => exact .refl s
    | some dep =>
      exact (((holdingsKept_of_same (by rfl)).trans (holdingsKept_dropDeparting ..)).trans
        (holdingsKept_countLost ..)).trans (holdingsKept_record ..)
  · exact .refl s

theorem holdingsKept_holdTimerExpiry (h : exec (.holdTimerExpiry p) s = .next t) : HoldingsKept s t := by
  cases h
  split
  · exact (holdingsKept_purgeLost s p).trans (holdingsKept_of_same rfl)
  · exact .refl s

/-! ## Refill, selection, transmission -/

theorem holdingsKept_refill (h : exec .refill s = .next t) : HoldingsKept s t := by
  cases h
  cases (refillOrder s.pool.refillPointer).find? fun p => s.refillable p with
  | none => exact .refl s
  | some p =>
    simp only [State.refillLink]
    cases s.pool.freeList with
    | nil => exact .refl s
    | cons c rest => exact holdingsKept_of_same rfl

theorem holdingsKept_selection (h : exec (.selection p) s = .next t) : HoldingsKept s t := by
  cases h
  split
  · cases (s.outs.get p.port).takeNext with
    | none => exact .refl s
    | some next =>
      obtain ⟨d, cls, o⟩ := next
      have htaken : HoldingsKept s (s.setOut p.port o) := holdingsKept_of_same rfl
      exact (htaken.trans (holdingsKept_markDeparting ..)).trans (holdingsKept_of_same rfl)
  · exact .refl s

theorem holdingsKept_sendCreditOrIdle (s : State) (p : LinkId) : HoldingsKept s (s.sendCreditOrIdle p) := by
  unfold State.sendCreditOrIdle
  split <;> exact holdingsKept_of_same rfl

theorem holdingsKept_sendDeparture (s : State) (p : LinkId) (dep : Departure) :
    HoldingsKept s (s.sendDeparture p dep) := by
  have hline (c : LinkChar) : HoldingsKept s (s.putLine p (some c)) := holdingsKept_of_same rfl
  unfold State.sendDeparture
  simp only
  split
  · exact ((hline _).trans (holdingsKept_dropDeparting ..)).trans (holdingsKept_countDelivered ..)
  · exact holdingsKept_of_same rfl

theorem holdingsKept_transmitInRun (s : State) (p : LinkId) : HoldingsKept s (s.transmitInRun p) := by
  unfold State.transmitInRun
  split
  · exact holdingsKept_of_same rfl
  cases (s.outs.get p.port).departing with
  | none => exact holdingsKept_sendCreditOrIdle ..
  | some dep =>
    simp only
    split
    · split
      · exact holdingsKept_of_same rfl
      split
      · exact (holdingsKept_of_same (by rfl)).trans (holdingsKept_sendDeparture ..)
      · exact holdingsKept_of_same rfl
    · exact holdingsKept_sendDeparture ..

theorem holdingsKept_transmitCharacter (h : exec (.transmitCharacter p) s = .next t) : HoldingsKept s t := by
  cases h
  cases (s.links.get p).state with
  | disabled | faulted | listen => exact holdingsKept_of_same rfl
  | sync =>
    simp only [State.transmitInSync]
    cases (s.links.get p).syncStep with
    | hello | idle => exact holdingsKept_of_same rfl
    | stream => exact holdingsKept_sendCreditOrIdle ..
  | run => exact holdingsKept_transmitInRun ..

/-! ## The window -/

theorem holdingsKept_modWin (s : State) (f : Window → Window) : HoldingsKept s (s.modWin f) :=
  holdingsKept_of_same rfl

theorem holdingsKept_endCommand (s : State) (code : Code) (r : Words4) : HoldingsKept s (s.endCommand code r) :=
  holdingsKept_modWin ..

theorem holdingsKept_endPlain (s : State) (code : Code) : HoldingsKept s (s.endPlain code) :=
  holdingsKept_endCommand ..

theorem holdingsKept_resolution (h : exec .resolution s = .next t) : HoldingsKept s t := by
  cases h
  cases s.win.engine with
  | initialising | idle | executingClear | writePhase | readPhase => exact .refl s
  | executingSend d =>
    have hresolve := holdingsKept_resolve s d .p0 (s.headerOf d)
    simp only
    cases hres : s.resolve d .p0 (s.headerOf d) with
    | mk decision u =>
      rw [hres] at hresolve
      cases decision with
      | discard cause => exact hresolve.trans (holdingsKept_endPlain ..)
      | place outputs refused pointer => exact hresolve.trans (holdingsKept_endCommand ..)

theorem holdingsKept_initialisationEnd (h : exec .initialisationEnd s = .next t) : HoldingsKept s t := by
  cases h
  split
  · exact .refl s
  cases s.win.engine with
  | initialising => exact holdingsKept_modWin ..
  | idle | executingSend | executingClear | writePhase | readPhase => exact .refl s

theorem holdingsKept_clearSwitchEnd (h : exec .clearSwitchEnd s = .next t) : HoldingsKept s t := by
  cases h
  cases s.win.engine with
  | executingClear n => exact holdingsKept_endCommand ..
  | initialising | idle | executingSend | writePhase | readPhase => exact .refl s

/-- The records are cleared and the bytes of the cells kept (R173, log entry 2); the table is as it was, with every
rotation pointer 6, or as after a hard reset (R74, R138). -/
theorem holdingsKept_of_reset (cells : t.cells = s.cells) (records : t.records = RecordLog.reset)
    (table : t.table = s.table ∨ t.table = State.reset.table) (rotation : t.rotation = State.reset.rotation) :
    HoldingsKept s t where
  memory h := by rw [cells]; exact h
  records _ := recordLaws_congr records recordLaws_reset
  table h := by
    rcases table with table | table
    · exact h.unrotated table fun n => by rw [rotation]; exact reset_rotation n
    · exact tableLaws_congr table rotation tableLaws_reset

theorem holdingsKept_hardReset (h : exec .hardReset s = .next t) : HoldingsKept s t := by
  have ht : s.hardResetValues.modWin (fun w => { w with resetApplied := true }) = t := Host.Outcome.next.inj h
  have hvalues : HoldingsKept s s.hardResetValues := by
    unfold State.hardResetValues
    exact holdingsKept_of_reset rfl rfl (Or.inr rfl) rfl
  exact ht ▸ hvalues.trans (holdingsKept_modWin ..)

theorem holdingsKept_controlWrite (s : State) (word : Word) : HoldingsKept s (s.controlWrite word) := by
  unfold State.controlWrite
  split
  · exact .refl s
  split
  · rw [State.softResetValues_eq]
    exact holdingsKept_of_reset rfl rfl (Or.inl rfl) rfl
  · exact holdingsKept_modWin ..

theorem holdingsKept_irqCauseWrite {word : Word} (h : exec (.irqCauseWrite word) s = .next t) : HoldingsKept s t := by
  cases h
  split
  · exact .refl s
  · exact holdingsKept_modWin ..

theorem holdingsKept_registerWrite {reg : PlainReg} {word : Word} (h : exec (.registerWrite reg word) s = .next t) :
    HoldingsKept s t := by
  cases h
  split
  · exact .refl s
  cases reg with
  | param0 | param1 | param2 | param3 | irqEnable => exact holdingsKept_modWin ..
  | error | result0 | result1 | result2 | result3 | linkState | id => exact .refl s

theorem holdingsKept_resetRelease (h : exec .resetRelease s = .next t) : HoldingsKept s t := by
  cases h
  split
  · exact holdingsKept_modWin ..
  · exact .refl s

/-- A payload word is at most two stored bytes (R130, R131). -/
theorem holdingsKept_storePayload (s : State) (d : DescId) (cursor : Nat) (word : Word) :
    HoldingsKept s (s.storePayload d cursor word) := by
  unfold State.storePayload
  simp only
  split
  · exact (holdingsKept_writeFrameByte ..).trans (holdingsKept_writeFrameByte ..)
  · exact holdingsKept_writeFrameByte ..

theorem holdingsKept_dataWrite {word : Word} (h : exec (.dataWrite word) s = .next t) : HoldingsKept s t := by
  cases h
  split
  · exact .refl s
  cases s.win.engine with
  | initialising | idle | executingSend | executingClear | readPhase => exact .refl s
  | writePhase d cursor =>
    simp only
    split <;> exact (holdingsKept_storePayload ..).trans (holdingsKept_modWin ..)

theorem holdingsKept_dataRead (h : exec .dataRead s = .next t) : HoldingsKept s t := by
  have hbus : HoldingsKept s (s.modWin fun w => { w with dataBus := s.readRegister 13#4 }) := holdingsKept_modWin ..
  cases h
  simp only
  split
  · exact hbus
  cases s.win.engine with
  | initialising | idle | executingSend | executingClear | writePhase => exact hbus
  | readPhase cursor =>
    cases s.outs.p0.departing with
    | none => exact hbus
    | some dep =>
      simp only
      split
      · exact ((hbus.trans (holdingsKept_dropHostCopy ..)).trans (holdingsKept_countDelivered ..)).trans
          (holdingsKept_endCommand ..)
      · exact hbus.trans (holdingsKept_modWin ..)

end

/-! ## Host commands -/

theorem holdingsKept_commandWrite {s : State} {run : State → State} (hrun : ∀ u : State, HoldingsKept u (run u)) :
    HoldingsKept s (s.commandWrite run) := by
  rcases s.commandWrite_cases run with ⟨-, h⟩ | ⟨-, h⟩ | ⟨-, -, h⟩ <;> rw [h]
  · exact .refl s
  · exact (holdingsKept_modWin ..).trans (hrun s.take)
  · exact holdingsKept_modWin ..

/-- SEND stores the header bytes in its cells (R4, R144). -/
theorem holdingsKept_beginSend (s : State) (d : DescId) (h : Header) (k : Nat) :
    HoldingsKept s (s.beginSend d h k) := by
  have hbytes (u : State) (chain : List CellId) (bs : List Byte) : HoldingsKept u (u.writeFrameBytes chain 0 bs) :=
    holdingsKept_of_cells (u.writeFrameBytes_wf chain 0 bs) (u.writeFrameBytes_frame chain 0 bs)
  unfold State.beginSend
  simp only
  split <;> exact ((holdingsKept_of_same (by rfl)).trans (hbytes ..)).trans (holdingsKept_modWin ..)

theorem holdingsKept_runSend (s : State) : HoldingsKept s s.runSend := by
  unfold State.runSend
  simp only
  cases classOfWord s.win.taken.w1 with
  | none => exact holdingsKept_endPlain ..
  | some cls =>
    simp only
    split
    · exact holdingsKept_endPlain ..
    cases s.lowestFree with
    | none => exact holdingsKept_endPlain ..
    | some d =>
      simp only
      split
      · exact holdingsKept_endPlain ..
      split
      · exact holdingsKept_endPlain ..
      · exact holdingsKept_beginSend ..

theorem holdingsKept_runRecv (s : State) : HoldingsKept s s.runRecv := by
  unfold State.runRecv
  cases s.outs.p0.takeNext with
  | none => exact holdingsKept_endPlain ..
  | some next =>
    obtain ⟨d, cls, o⟩ := next
    have hdeparting (dep : Departure) :
        HoldingsKept s ((s.setOut .p0 { o with departing := some dep }).markDeparting .p0 d) :=
      (holdingsKept_of_same (by rfl)).trans (holdingsKept_markDeparting ..)
    simp only
    split
    · exact (((hdeparting _).trans (holdingsKept_dropHostCopy ..)).trans (holdingsKept_countDelivered ..)).trans
        (holdingsKept_endCommand ..)
    · exact ((hdeparting _).trans (holdingsKept_modWin ..)).trans (holdingsKept_modWin ..)

theorem holdingsKept_runSkip (s : State) : HoldingsKept s s.runSkip := by
  unfold State.runSkip
  cases s.outs.p0.takeNext with
  | none => exact holdingsKept_endPlain ..
  | some next =>
    obtain ⟨d, cls, o⟩ := next
    have htaken : HoldingsKept s (s.setOut .p0 o) := holdingsKept_of_same rfl
    exact ((htaken.trans (holdingsKept_releaseCopy ..)).trans (holdingsKept_countLost ..)).trans
      (holdingsKept_endCommand ..)

theorem holdingsKept_abortPhase (s : State) : HoldingsKept s s.abortPhase := by
  have hcleared : HoldingsKept s (s.modWin fun w => { w with overrun := false }) := holdingsKept_modWin ..
  unfold State.abortPhase
  cases s.win.engine with
  | initialising | idle | executingSend | executingClear => exact .refl s
  | writePhase d cursor => exact (hcleared.trans (holdingsKept_freeDesc ..)).trans (holdingsKept_endPlain ..)
  | readPhase cursor =>
    cases s.outs.p0.departing with
    | none => exact hcleared.trans (holdingsKept_endCommand ..)
    | some dep =>
      exact ((hcleared.trans (holdingsKept_dropHostCopy ..)).trans (holdingsKept_countLost ..)).trans
        (holdingsKept_endCommand ..)

theorem holdingsKept_abort {s t : State} (h : exec .abort s = .next t) : HoldingsKept s t := by
  cases h
  split
  · exact holdingsKept_abortPhase s
  · exact holdingsKept_commandWrite fun u => holdingsKept_endPlain ..

/-- TABLE_WRITE keeps Law 12: the entry written is not anchored, its contents are lawful, its pointer is 6 (R55). -/
theorem holdingsKept_runTableWrite (s : State) : HoldingsKept s s.runTableWrite := by
  unfold State.runTableWrite
  cases hentry : tableWriteEntry s.win.taken with
  | error c => exact holdingsKept_endPlain ..
  | ok entry =>
    obtain ⟨hfree, hlawful⟩ := tableWriteEntry_ok hentry
    exact ⟨id, recordLaws_congr rfl, fun h => h.write rfl rfl hfree hlawful⟩

theorem holdingsKept_runTableRead (s : State) : HoldingsKept s s.runTableRead := by
  unfold State.runTableRead
  split
  · exact holdingsKept_endCommand ..
  · exact holdingsKept_endPlain ..

theorem holdingsKept_runDisable (s : State) (p : LinkId) : HoldingsKept s (s.runDisable p) := by
  unfold State.runDisable
  cases (s.links.get p).state with
  | disabled | listen | sync | run | faulted => exact (holdingsKept_disableLink s p).trans (holdingsKept_endCommand ..)

theorem holdingsKept_runRestart (s : State) (p : LinkId) : HoldingsKept s (s.runRestart p) := by
  unfold State.runRestart
  cases (s.links.get p).state with
  | disabled => exact holdingsKept_endPlain ..
  | listen | faulted | sync | run => exact (holdingsKept_restartLink s p).trans (holdingsKept_endCommand ..)

theorem holdingsKept_runLinkControl (s : State) : HoldingsKept s s.runLinkControl := by
  unfold State.runLinkControl
  split
  · exact holdingsKept_endPlain ..
  · exact holdingsKept_endPlain ..
  · exact (holdingsKept_of_same (s.enableLink_holdings _)).trans (holdingsKept_endCommand ..)
  · exact holdingsKept_runDisable ..
  · exact holdingsKept_runRestart ..

theorem holdingsKept_runPortConfig (s : State) : HoldingsKept s s.runPortConfig := by
  unfold State.runPortConfig
  simp only
  cases portOfWord s.win.taken.w0 with
  | none => exact holdingsKept_endPlain ..
  | some p =>
    simp only
    split
    · exact holdingsKept_endPlain ..
    cases p.link? with
    | none =>
      simp only
      split <;> exact holdingsKept_of_same rfl
    | some l => cases speedOfWord s.win.taken.w3 <;> exact holdingsKept_of_same rfl

theorem holdingsKept_flushOutput (s : State) (p : Port) : HoldingsKept s (s.flushOutput p) := by
  unfold State.flushOutput
  cases p.link? with
  | none => exact (holdingsKept_purge ..).trans (holdingsKept_countLost ..)
  | some l =>
    exact (((holdingsKept_of_same (by rfl)).trans (holdingsKept_dropDeparting ..)).trans
      (holdingsKept_purge ..)).trans (holdingsKept_countLost ..)

theorem holdingsKept_runPortFlush (s : State) : HoldingsKept s s.runPortFlush := by
  unfold State.runPortFlush
  cases portOfWord s.win.taken.w0 with
  | none => exact holdingsKept_endPlain ..
  | some p => exact (holdingsKept_flushOutput s p).trans (holdingsKept_endCommand ..)

theorem holdingsKept_runReadPort (s : State) : HoldingsKept s s.runReadPort := by
  unfold State.runReadPort
  split
  · exact holdingsKept_endPlain ..
  · split <;> exact holdingsKept_endCommand ..

theorem holdingsKept_runSetPool (s : State) : HoldingsKept s s.runSetPool := by
  unfold State.runSetPool
  split
  · exact holdingsKept_endPlain ..
  cases poolSetting s.pool s.win.taken with
  | none => exact holdingsKept_endPlain ..
  | some q => exact holdingsKept_of_same rfl

theorem holdingsKept_runReadCounter (s : State) : HoldingsKept s s.runReadCounter := by
  unfold State.runReadCounter
  split
  · split
    · exact holdingsKept_endCommand ..
    · exact holdingsKept_endPlain ..
  · exact holdingsKept_endPlain ..

/-- TAKE_RECORD takes at most the oldest record (R160). -/
theorem holdingsKept_runTakeRecord (s : State) : HoldingsKept s s.runTakeRecord := by
  unfold State.runTakeRecord
  cases hlist : s.records.list with
  | nil => exact holdingsKept_endCommand ..
  | cons r rest =>
    have hshorter : rest.length ≤ s.records.list.length := by
      rw [hlist]
      exact Nat.le_succ _
    exact ⟨id, fun h => ⟨hshorter.trans h.cap, h.overflow⟩, tableLaws_congr rfl rfl⟩

/-- CLEAR_SWITCH sets every rotation pointer to 6 (R161). -/
theorem holdingsKept_runClearSwitch (s : State) : HoldingsKept s s.runClearSwitch := by
  unfold State.runClearSwitch
  split
  · exact holdingsKept_endPlain ..
  · refine HoldingsKept.trans ?_ (holdingsKept_modWin ..)
    rw [State.clearTraffic_frame]
    exact ⟨id, recordLaws_congr rfl, fun h => h.unrotated rfl s.clearTraffic_rotation⟩

/-! ## Every command -/

theorem exec_holdingsKept {c : Instr} {s t : State} (h : exec c s = .next t) : HoldingsKept s t := by
  have hcommand {run : State → State} (hrun : ∀ u : State, HoldingsKept u (run u))
      (h : Host.Outcome.next (s.commandWrite run) = (.next t : Answer)) : HoldingsKept s t := by
    cases h
    exact holdingsKept_commandWrite hrun
  cases c with
  | dataReceived => exact holdingsKept_dataReceived h
  | endGoodReceived => exact holdingsKept_endGoodReceived h
  | endCutReceived => exact holdingsKept_endCutReceived h
  | creditReceived => exact holdingsKept_creditReceived h
  | idleReceived => exact holdingsKept_idleReceived h
  | helloReceived => exact holdingsKept_helloReceived h
  | codeErrorReceived => cases h; exact holdingsKept_codeError ..
  | silenceTimerExpiry => exact holdingsKept_silenceTimerExpiry h
  | syncTimerExpiry => exact holdingsKept_syncTimerExpiry h
  | recoveryTimerExpiry => exact holdingsKept_recoveryTimerExpiry h
  | stallTimerExpiry => exact holdingsKept_stallTimerExpiry h
  | holdTimerExpiry => exact holdingsKept_holdTimerExpiry h
  | refill => exact holdingsKept_refill h
  | selection => exact holdingsKept_selection h
  | transmitCharacter => exact holdingsKept_transmitCharacter h
  | resolution => exact holdingsKept_resolution h
  | initialisationEnd => exact holdingsKept_initialisationEnd h
  | clearSwitchEnd => exact holdingsKept_clearSwitchEnd h
  | hardReset => exact holdingsKept_hardReset h
  | softReset | masterEnableWrite => cases h; exact holdingsKept_controlWrite ..
  | irqCauseWrite => exact holdingsKept_irqCauseWrite h
  | dataWrite => exact holdingsKept_dataWrite h
  | dataRead => exact holdingsKept_dataRead h
  | registerWrite => exact holdingsKept_registerWrite h
  | send => exact hcommand holdingsKept_runSend h
  | recv => exact hcommand holdingsKept_runRecv h
  | skip => exact hcommand holdingsKept_runSkip h
  | abort => exact holdingsKept_abort h
  | tableWrite => exact hcommand holdingsKept_runTableWrite h
  | tableRead => exact hcommand holdingsKept_runTableRead h
  | enable | disable | restart => exact hcommand holdingsKept_runLinkControl h
  | portConfig => exact hcommand holdingsKept_runPortConfig h
  | portFlush => exact hcommand holdingsKept_runPortFlush h
  | readPort => exact hcommand holdingsKept_runReadPort h
  | setPool => exact hcommand holdingsKept_runSetPool h
  | readPool => exact hcommand (fun _ => holdingsKept_endCommand ..) h
  | readCounter => exact hcommand holdingsKept_runReadCounter h
  | clearCounters => exact hcommand (run := State.runClearCounters) (fun _ => holdingsKept_of_same rfl) h
  | takeRecord => exact hcommand holdingsKept_runTakeRecord h
  | clearSwitch => exact hcommand holdingsKept_runClearSwitch h
  | badCommand => exact hcommand (fun _ => holdingsKept_endPlain ..) h
  | resetRelease => exact holdingsKept_resetRelease h

/-- A step takes the command at the front of the queue, or none. -/
theorem step_holdingsKept {s t : State} (h : step s = .next t) : HoldingsKept s t := by
  unfold step at h
  cases hp : s.pending with
  | nil =>
    rw [hp] at h
    cases h
    exact .refl s
  | cons c rest =>
    rw [hp] at h
    have hqueue : HoldingsKept s { s with pending := rest } := holdingsKept_of_same rfl
    exact hqueue.trans (exec_holdingsKept h)

/-- Settles O56: the three invariants, each alone, go through every step. -/
theorem stepKeepsMemoryRecordsAndTable : Obligations.StepKeepsMemoryRecordsAndTable :=
  ⟨fun _ _ hs h => (step_holdingsKept h).memory hs, fun _ _ hs h => (step_holdingsKept h).records hs,
    fun _ _ hs h => (step_holdingsKept h).table hs⟩

end Sys2Proof.Machine
end

section
/-! LAWS. The link symbols (sections 1.5, 6.4 and 11.1 of the manual): the parity bit, the flag and the value of a
symbol, the character and the command each symbol is, and the order of its bits on the pair. -/

namespace Sys2Proof

set_option Elab.async false

/-! ## The parity bit -/

theorem onesCount_append (q : BitVec 1) (x : BitVec 9) :
    onesCount (q ++ x) = ((List.range 9).filter fun i => x.getLsbD i).length + q.toNat := by
  have hlow : (List.range 9).filter (fun i => (q ++ x : BitVec 10).getLsbD i) =
      (List.range 9).filter fun i => x.getLsbD i :=
    List.filter_congr fun i hi => by rw [BitVec.getLsbD_append, if_pos (List.mem_range.1 hi)]
  have htop : (q ++ x : BitVec 10).getLsbD 9 = q.getLsbD 0 := by
    rw [BitVec.getLsbD_append, if_neg (lt_irrefl 9)]
  rw [onesCount, List.range_succ, List.filter_append, List.length_append, hlow, List.filter_singleton, htop]
  rcases BitVec.eq_zero_or_eq_one q with rfl | rfl <;> rfl

/-- Of the two values of bit 9 the parity bit is the one that makes the count of ones odd (R178). -/
theorem odd_onesCount_iff {q : BitVec 1} {x : BitVec 9} : onesCount (q ++ x) % 2 = 1 ↔ parityBit x = q := by
  have hcount : onesCount (q ++ x) = onesCount (0#1 ++ x) + q.toNat := by
    rw [onesCount_append, onesCount_append]
    rfl
  rw [hcount, parityBit]
  rcases BitVec.eq_zero_or_eq_one q with rfl | rfl
  · simp
  · simp [Nat.succ_mod_two_eq_one_iff]

/-! ## The flag and the value -/

theorem append_eq_iff_parts {m n : Nat} {x : BitVec m} {y : BitVec n} {v : BitVec (m + n)} :
    x ++ y = v ↔ x = v.extractLsb' n m ∧ y = v.setWidth n := by
  constructor
  · rintro rfl
    exact ⟨BitVec.extractLsb'_append_eq_left.symm, BitVec.setWidth_append_eq_right.symm⟩
  · rintro ⟨rfl, rfl⟩
    rw [BitVec.setWidth_eq_extractLsb' (Nat.le_add_left n m), BitVec.extractLsb'_append_extractLsb']

theorem ofBool_eq_extractLsb'_iff {w k : Nat} {v : BitVec w} {b : Bool} :
    BitVec.ofBool b = v.extractLsb' k 1 ↔ v.getLsbD k = b := by
  have hbit : v.extractLsb' k 1 = BitVec.ofBool (v.getLsbD k) :=
    BitVec.eq_of_getLsbD_eq fun i hi => by
      obtain rfl : i = 0 := by omega
      rw [BitVec.getLsbD_extractLsb', BitVec.getLsbD_ofBool]
      rfl
  rw [hbit, BitVec.ofBool_eq_iff_eq, eq_comm]

/-- A character's symbol is the one of odd parity with its flag and its value (R178). -/
theorem symbol_eq_iff {c : LinkChar} {flag : Bool} {code : Byte} (hbody : c.body = BitVec.ofBool flag ++ code)
    {v : BitVec 10} : c.symbol = v ↔ onesCount v % 2 = 1 ∧ v.getLsbD 8 = flag ∧ v.setWidth 8 = code := by
  have hparts : v.extractLsb' 9 1 ++ v.setWidth 9 = v := append_eq_iff_parts.2 ⟨rfl, rfl⟩
  have hflag : (v.setWidth 9).getLsbD 8 = v.getLsbD 8 := by
    rw [BitVec.getLsbD_setWidth]; rfl
  have hvalue : (v.setWidth 9).setWidth 8 = v.setWidth 8 := BitVec.setWidth_setWidth_of_le v (by decide)
  have hfields : c.body = v.setWidth 9 ↔ v.getLsbD 8 = flag ∧ v.setWidth 8 = code := by
    rw [hbody, append_eq_iff_parts (m := 1) (n := 8) (v := v.setWidth 9),
      ofBool_eq_extractLsb'_iff, hflag, hvalue, eq_comm (a := code)]
  have hodd : onesCount v % 2 = 1 ↔ parityBit (v.setWidth 9) = v.extractLsb' 9 1 := by
    rw [← odd_onesCount_iff, hparts]
  rw [LinkChar.symbol, append_eq_iff_parts, ← hfields, hodd]
  exact and_congr_left fun hb => by rw [hb]

/-- A control character has the flag 1 and its code (R178). -/
theorem body_of_not_data {c : LinkChar} (hc : ∀ b, c ≠ .data b) :
    c.body = BitVec.ofBool true ++ c.controlCode?.getD 0 := by
  cases c with
  | data b => exact (hc b rfl).elim
  | endGood | endCut | credit | idle | hello => rfl

theorem body_of_control {c : LinkChar} {code : Byte} (hc : c.controlCode? = some code) :
    c.body = BitVec.ofBool true ++ code := by
  rw [body_of_not_data (by rintro b rfl; cases hc), hc]
  rfl

theorem controlCode_credit {n : Nat} (hn : 1 ≤ n ∧ n ≤ 16) :
    LinkChar.controlCode? (.credit n) = some (BitVec.ofNat 8 (0x7F + n)) :=
  if_pos hn

/-! ## The character of a symbol -/

/-- The characters that have a symbol of their own: a CREDIT counts from 1 to 16 (R7, R178). -/
def LinkChar.Listed (c : LinkChar) : Prop := ∀ n, c = .credit n → 1 ≤ n ∧ n ≤ 16

theorem listed_of_not_credit {c : LinkChar} (hc : ∀ n, c ≠ .credit n) : c.Listed :=
  fun n hn => (hc n hn).elim

theorem listed_credit {n : Nat} (h1 : 1 ≤ n) (h16 : n ≤ 16) : LinkChar.Listed (.credit n) := by
  rintro m ⟨⟩
  exact ⟨h1, h16⟩

/-- Only the counts from 1 to 16 have a code. -/
theorem listed_of_controlCode {c : LinkChar} {code : Byte} (hc : c.controlCode? = some code) : c.Listed := by
  rintro n rfl
  by_contra hn
  rw [LinkChar.controlCode?, if_neg hn] at hc
  cases hc

theorem decodeSymbol_of_data {v : BitVec 10} (hodd : onesCount v % 2 = 1) (hflag : v.getLsbD 8 = false) :
    decodeSymbol v = some (.data (v.setWidth 8)) := by
  unfold decodeSymbol
  rw [if_neg (by omega), hflag]
  rfl

/-- The value of a control symbol names its character, the codes 80H to 8FH a CREDIT (R178). -/
theorem decodeSymbol_of_control {v : BitVec 10} {c : LinkChar} (hodd : onesCount v % 2 = 1)
    (hflag : v.getLsbD 8 = true) (hcode : c.controlCode? = some (v.setWidth 8)) : decodeSymbol v = some c := by
  unfold decodeSymbol
  simp only
  rw [if_neg (by omega), hflag, if_neg (by decide)]
  generalize v.setWidth 8 = value at hcode
  cases c with
  | data => cases hcode
  | endGood | endCut | idle | hello => cases hcode; rfl
  | credit n =>
    have hn : 1 ≤ n ∧ n ≤ 16 := listed_of_controlCode hcode n rfl
    have hvalue : value.toNat = 0x7F + n := by
      rw [controlCode_credit hn] at hcode
      cases hcode
      rw [BitVec.toNat_ofNat]
      omega
    have hne {k : Byte} (hk : k.toNat < 0x80 ∨ 0x8F < k.toNat) : value ≠ k := by
      rintro rfl
      omega
    rw [if_neg (hne (by decide)), if_neg (hne (by decide)), if_neg (hne (by decide)), if_neg (hne (by decide)),
      if_pos (by omega), hvalue, Nat.add_sub_cancel_left]

/-- A symbol is read as a character only by odd parity, a DATA symbol by its flag and a control symbol by its code. -/
theorem fields_of_decodeSymbol {v : BitVec 10} {c : LinkChar} (h : decodeSymbol v = some c) :
    onesCount v % 2 = 1 ∧ ((v.getLsbD 8 = false ∧ c = .data (v.setWidth 8)) ∨
      (v.getLsbD 8 = true ∧ c.controlCode? = some (v.setWidth 8))) := by
  unfold decodeSymbol at h
  simp only at h
  split at h
  case isTrue => cases h
  case isFalse heven =>
    refine ⟨by omega, ?_⟩
    cases hflag : v.getLsbD 8 with
    | false =>
      rw [hflag] at h
      cases h
      exact .inl ⟨rfl, rfl⟩
    | true =>
      rw [hflag, if_neg (by decide)] at h
      refine .inr ⟨rfl, ?_⟩
      generalize v.setWidth 8 = value at h
      split_ifs at h with hgood hcut hidle hhello hcredit <;> cases h
      · exact congrArg some hgood.symm
      · exact congrArg some hcut.symm
      · exact congrArg some hidle.symm
      · exact congrArg some hhello.symm
      · have hsum : 0x7F + (value.toNat - 0x7F) = value.toNat := by omega
        rw [controlCode_credit (by omega), hsum, BitVec.ofNat_toNat, BitVec.setWidth_eq]

/-- The characters read are the listed ones, each from its own symbol alone (R178). -/
theorem decodeSymbol_eq_some_iff {v : BitVec 10} {c : LinkChar} :
    decodeSymbol v = some c ↔ c.Listed ∧ c.symbol = v := by
  constructor
  · intro h
    obtain ⟨hodd, ⟨hflag, rfl⟩ | ⟨hflag, hcode⟩⟩ := fields_of_decodeSymbol h
    · exact ⟨listed_of_not_credit nofun, (symbol_eq_iff rfl).2 ⟨hodd, hflag, rfl⟩⟩
    · exact ⟨listed_of_controlCode hcode, (symbol_eq_iff (body_of_control hcode)).2 ⟨hodd, hflag, rfl⟩⟩
  · rintro ⟨hlisted, hsymbol⟩
    have control {code : Byte} (hcode : c.controlCode? = some code) : decodeSymbol v = some c := by
      obtain ⟨hodd, hflag, rfl⟩ := (symbol_eq_iff (body_of_control hcode)).1 hsymbol
      exact decodeSymbol_of_control hodd hflag hcode
    cases c with
    | data b =>
      obtain ⟨hodd, hflag, rfl⟩ := (symbol_eq_iff (flag := false) rfl).1 hsymbol
      exact decodeSymbol_of_data hodd hflag
    | endGood | endCut | idle | hello => exact control rfl
    | credit n => exact control (controlCode_credit (hlisted n rfl))

theorem decodeSymbol_symbol {c : LinkChar} (hc : c.Listed) : decodeSymbol c.symbol = some c :=
  decodeSymbol_eq_some_iff.2 ⟨hc, rfl⟩

theorem symbol_value {c : LinkChar} {flag : Bool} {code : Byte} (hbody : c.body = BitVec.ofBool flag ++ code) :
    c.symbol.toNat % 256 = code.toNat := by
  obtain ⟨-, -, hvalue⟩ := (symbol_eq_iff hbody).1 rfl
  rw [← hvalue, BitVec.toNat_setWidth]

theorem symbol_flag {c : LinkChar} {flag : Bool} {code : Byte} (hbody : c.body = BitVec.ofBool flag ++ code) :
    c.symbol.getLsbD 8 = flag := by
  obtain ⟨-, hflag, -⟩ := (symbol_eq_iff hbody).1 rfl
  exact hflag

theorem symbol_value_credit {n : Nat} (h1 : 1 ≤ n) (h16 : n ≤ 16) :
    (LinkChar.symbol (.credit n)).toNat % 256 = 0x7F + n := by
  rw [symbol_value (body_of_control (controlCode_credit ⟨h1, h16⟩)), BitVec.toNat_ofNat]
  omega

/-! ## The command of a symbol -/

/-- The row of the command table that a received character is (R7). -/
def LinkChar.row (p : LinkId) : LinkChar → Instr
  | .data b => .dataReceived p b
  | .endGood => .endGoodReceived p
  | .endCut => .endCutReceived p
  | .credit n => .creditReceived p n
  | .idle => .idleReceived p
  | .hello => .helloReceived p

theorem commandOfSymbol_of_some {p : LinkId} {v : BitVec 10} {c : LinkChar} (h : decodeSymbol v = some c) :
    commandOfSymbol p v = c.row p := by
  unfold commandOfSymbol
  rw [h]
  cases c <;> rfl

theorem commandOfSymbol_symbol {p : LinkId} {c : LinkChar} (hc : c.Listed) : commandOfSymbol p c.symbol = c.row p :=
  commandOfSymbol_of_some (decodeSymbol_symbol hc)

theorem commandOfSymbol_of_none {p : LinkId} {v : BitVec 10} (h : decodeSymbol v = none) :
    commandOfSymbol p v = .codeErrorReceived p := by
  unfold commandOfSymbol
  rw [h]

theorem decodeSymbol_of_no_symbol {v : BitVec 10} (h : ∀ c : LinkChar, c.Listed → c.symbol ≠ v) :
    decodeSymbol v = none :=
  Option.eq_none_iff_forall_ne_some.2 fun c hc =>
    have ⟨hlisted, hsymbol⟩ := decodeSymbol_eq_some_iff.1 hc
    h c hlisted hsymbol

theorem row_wellFormed {p : LinkId} {c : LinkChar} (hc : c.Listed) : (c.row p).wellFormed = true := by
  cases c with
  | data | endGood | endCut | idle | hello => rfl
  | credit n =>
    obtain ⟨h1, h16⟩ := hc n rfl
    simp [LinkChar.row, Instr.wellFormed, h1, h16]

theorem commandOfSymbol_wellFormed (p : LinkId) (v : BitVec 10) : (commandOfSymbol p v).wellFormed = true := by
  cases h : decodeSymbol v with
  | none => rw [commandOfSymbol_of_none h]; rfl
  | some c =>
    rw [commandOfSymbol_of_some h]
    exact row_wellFormed (decodeSymbol_eq_some_iff.1 h).1

/-! ## The bits on the pair -/

theorem serialBits_getElem? (v : BitVec 10) {i : Nat} (hi : i < 10) : (serialBits v)[i]? = some (v.getLsbD i) := by
  simp [serialBits, hi]

/-- The first bit taken from the pair is bit 0 of the symbol (R178). -/
theorem symbolOfBits_getLsbD (bits : List Bool) {i : Nat} (hi : i < 10) :
    (symbolOfBits bits).getLsbD i = bits[i]?.getD false := by
  induction bits generalizing i with
  | nil => simp [symbolOfBits]
  | cons b rest ih =>
    have hcons : symbolOfBits (b :: rest) = (symbolOfBits rest <<< 1) ||| BitVec.ofNat 10 b.toNat := rfl
    rw [hcons, BitVec.getLsbD_or, BitVec.getLsbD_shiftLeft]
    cases i with
    | zero => cases b <;> rfl
    | succ i =>
      have hb : (BitVec.ofNat 10 b.toNat).getLsbD (i + 1) = false := by cases b <;> simp
      rw [hb, Nat.add_sub_cancel, ih (by omega)]
      simp [hi]

theorem symbolOfBits_serialBits (v : BitVec 10) : symbolOfBits (serialBits v) = v :=
  BitVec.eq_of_getLsbD_eq fun i hi => by
    rw [symbolOfBits_getLsbD _ hi, serialBits_getElem? v hi]
    rfl

end Sys2Proof
end

section
/-! PROOFS. The bit layouts (sections 1.1, 1.3 to 1.5, 5.5, 11.1 and 11.2 of the manual): the fields of the second
header byte, the header both ways, the characters a departure sends, and the link symbols. -/

namespace Sys2Proof.Machine

set_option Elab.async false

/-! ## The second header byte -/

section
variable (c : BitVec 1) (hops : BitVec 4) (spare : BitVec 3)

theorem classBit_of_fields : (c ++ hops ++ spare : BitVec 8).getLsbD 7 = c.getLsbD 0 := by
  rw [BitVec.getLsbD_append, if_neg (by decide), BitVec.getLsbD_append, if_neg (by decide)]

theorem hops_of_fields : (c ++ hops ++ spare : BitVec 8).extractLsb' 3 4 = hops :=
  (BitVec.extractLsb'_append_eq_of_le le_rfl).trans BitVec.extractLsb'_append_eq_right

theorem spare_of_fields : (c ++ hops ++ spare : BitVec 8).extractLsb' 0 3 = spare :=
  BitVec.extractLsb'_append_eq_right

/-- The mask 87H of a departure clears the four bits of HOPS and no other, and the new HOPS takes their place (R6). -/
theorem hopsReplaced_of_fields (new : BitVec 4) :
    ((c ++ hops ++ spare : BitVec 8) &&& 0x87#8) ||| (0#1 ++ new ++ 0#3 : BitVec 8) =
      (c ++ new ++ spare : BitVec 8) := by
  have hmask : (0x87#8) = (1#1 ++ 0#4 ++ 7#3 : BitVec 8) := rfl
  have hclass : c &&& 1#1 = c := BitVec.and_allOnes
  have hspare : spare &&& 7#3 = spare := BitVec.and_allOnes
  rw [hmask, BitVec.and_append, BitVec.and_append, BitVec.or_append, BitVec.or_append, hclass, hspare,
    BitVec.and_zero, BitVec.zero_or, BitVec.or_zero, BitVec.or_zero]

end

/-- The class bit is 1 for EXPRESS alone (R179). -/
theorem classBit_eq_ofBool (express : Bool) :
    BitVec.ofNat 1 (classCode (if express then .express else .standard)) = BitVec.ofBool express := by
  cases express <;> rfl

theorem class_of_classBit (cls : Class) :
    (if (BitVec.ofNat 1 (classCode cls)).getLsbD 0 then Class.express else .standard) = cls := by
  cases cls <;> rfl

theorem byte_of_its_fields (b : Byte) :
    (BitVec.ofBool (b.getLsbD 7) ++ b.extractLsb' 3 4 ++ b.extractLsb' 0 3 : BitVec 8) = b := by
  have hclass : BitVec.ofBool (b.getLsbD 7) = b.extractLsb' 7 1 := ofBool_eq_extractLsb'_iff.2 rfl
  have hhigh : b.extractLsb' 7 1 ++ b.extractLsb' 3 4 = b.extractLsb' 3 5 :=
    BitVec.extractLsb'_append_extractLsb'_eq_extractLsb' rfl
  have hall : b.extractLsb' 3 5 ++ b.extractLsb' 0 3 = b.extractLsb' 0 8 :=
    BitVec.extractLsb'_append_extractLsb'_eq_extractLsb' rfl
  rw [hclass, hhigh, hall, BitVec.extractLsb'_eq_self]

/-! ## The header layout both ways -/

theorem headerOfBytes_of_headerBytes {h : Header} {b0 b1 b2 b3 : Byte} (hb : headerBytes h = [b0, b1, b2, b3]) :
    headerOfBytes b0 b1 b2 b3 = h := by
  obtain ⟨dest, cls, hops, spare, length⟩ := h
  cases hb
  have hlength : length.extractLsb' 8 8 ++ length.extractLsb' 0 8 = length.extractLsb' 0 16 :=
    BitVec.extractLsb'_append_extractLsb'_eq_extractLsb' rfl
  simp only [headerOfBytes, classBit_of_fields, hops_of_fields, spare_of_fields, class_of_classBit, hlength,
    BitVec.extractLsb'_eq_self]

theorem headerBytes_headerOfBytes (b0 b1 b2 b3 : Byte) :
    headerBytes (headerOfBytes b0 b1 b2 b3) = [b0, b1, b2, b3] := by
  simp only [headerBytes, headerOfBytes, classBit_eq_ofBool, byte_of_its_fields, BitVec.extractLsb'_append_eq_left,
    BitVec.extractLsb'_append_eq_right]

/-! ## What a departure sends -/

section
variable {s : State} {d : DescId}

theorem State.sentByte_ne_one {k : Nat} (hk : k ≠ 1) : s.sentByte d k = s.frameByte (s.chainOf d) k :=
  if_neg hk

theorem State.sentByte_one {c : BitVec 1} {hops : BitVec 4} {spare : BitVec 3}
    (hb : s.frameByte (s.chainOf d) 1 = (c ++ hops ++ spare : BitVec 8)) :
    s.sentByte d 1 = (c ++ ((s.headerOf d).hops - 1) ++ spare : BitVec 8) := by
  unfold State.sentByte
  rw [if_pos rfl, hb]
  exact hopsReplaced_of_fields ..

theorem State.departureChar_stored {k : Nat} (hk : k < (s.headerOf d).size) :
    s.departureChar d k = .data (s.sentByte d k) :=
  if_pos hk

theorem State.departureChar_checkHigh :
    s.departureChar d (s.headerOf d).size = .data ((s.sentCheck d).extractLsb' 8 8) :=
  (if_neg (lt_irrefl _)).trans (if_pos rfl)

theorem State.departureChar_checkLow :
    s.departureChar d ((s.headerOf d).size + 1) = .data ((s.sentCheck d).extractLsb' 0 8) :=
  (if_neg (by omega)).trans ((if_neg (by omega)).trans (if_pos rfl))

theorem State.departureChar_end : s.departureChar d ((s.headerOf d).size + 2) = .endGood :=
  (if_neg (by omega)).trans ((if_neg (by omega)).trans (if_neg (by omega)))

end

/-- Settles O40: the fields of the second header byte give the layout both ways and the byte sent in its place, and the
characters go by the position. -/
theorem headerLayoutSentBytesAndCheck : Obligations.HeaderLayoutSentBytesAndCheck := by
  refine ⟨fun _ _ _ _ _ => headerOfBytes_of_headerBytes, headerBytes_headerOfBytes, rfl, by decide +kernel,
    fun s d x h hx hh => ?_⟩
  have hheader : s.headerOf d = h := State.headerOf_of_some hx hh
  have hchain : s.chainOf d = x.chain := State.chainOf_of_some hx
  rw [← hheader, ← hchain]
  exact ⟨fun _ => State.sentByte_ne_one, fun _ _ => State.sentByte_one, fun _ => State.departureChar_stored,
    State.departureChar_checkHigh, State.departureChar_checkLow, State.departureChar_end⟩

/-! ## The link symbols -/

/-- Settles O54: a symbol is read as a character exactly when it is that character's own, and every other clause follows
from that, from the two fields of a body, or from the order of the bits. -/
theorem symbolsRoundTrip : Obligations.SymbolsRoundTrip := by
  have plain (p : LinkId) (c : LinkChar) (hc : ∀ n, c ≠ .credit n) :
      commandOfSymbol p c.symbol = c.row p := commandOfSymbol_symbol (listed_of_not_credit hc)
  refine ⟨fun c hc => ?reads, fun v c h => ?spelled, commandOfSymbol_wellFormed, fun p => ?rows, fun p v => ?serial,
    fun s p => ?pair, ?fields, by decide, by decide⟩
  case reads =>
    exact ⟨decodeSymbol_symbol hc, (fields_of_decodeSymbol (decodeSymbol_symbol hc)).1⟩
  case spelled =>
    exact (decodeSymbol_eq_some_iff.1 h).symm
  case rows =>
    exact ⟨fun b => plain p (.data b) nofun, plain p .endGood nofun, plain p .endCut nofun,
      fun n h1 h16 => commandOfSymbol_symbol (listed_credit h1 h16), plain p .idle nofun, plain p .hello nofun,
      fun v => commandOfSymbol_of_none, fun v h => commandOfSymbol_of_none (decodeSymbol_of_no_symbol h)⟩
  case serial =>
    exact ⟨serialBits_length v, fun i => serialBits_getElem? v, symbolOfBits_serialBits v,
      congrArg (commandOfSymbol p) (symbolOfBits_serialBits v)⟩
  case pair =>
    exact ⟨fun c h => by rw [State.pairBits, h], fun h => by rw [State.pairBits, h]⟩
  case fields =>
    have value (c : LinkChar) (code : Byte) (hc : c.controlCode? = some code) :
        c.symbol.toNat % 256 = code.toNat := symbol_value (body_of_control hc)
    exact ⟨fun b => ⟨symbol_value (flag := false) rfl, symbol_flag rfl⟩,
      fun c hc => symbol_flag (body_of_not_data hc),
      ⟨value .endGood 0x3C rfl, value .endCut 0xC3 rfl, value .idle 0x5A rfl, value .hello 0xA5 rfl⟩,
      fun n h1 h16 => symbol_value_credit h1 h16⟩

end Sys2Proof.Machine
end

section
/-! LAWS. The queue of the commands that wait (log entries 3, 4 and 20): no operation of the part writes it, with one
lemma for each operation, grouped as the definitions are. -/

namespace Sys2Proof.Machine

/-! ## Frame memory, pool and descriptors -/

@[simp] theorem State.writeFrameBytes_pending (s : State) (chain : List CellId) (k : Nat) (bs : List Byte) :
    (s.writeFrameBytes chain k bs).pending = s.pending :=
  (congrArg State.pending (s.writeFrameBytes_frame chain k bs)).trans rfl

@[simp] theorem State.refillLink_pending (s : State) (p : LinkId) : (s.refillLink p).pending = s.pending := by
  unfold State.refillLink
  cases s.pool.freeList <;> rfl

@[simp] theorem State.markDeparting_pending (s : State) (p : Port) (d : DescId) :
    (s.markDeparting p d).pending = s.pending :=
  (congrArg State.pending (s.markDeparting_frame p d)).trans rfl

/-! ## Outputs -/

@[simp] theorem State.dropDeparting_pending (s : State) (p : LinkId) : (s.dropDeparting p).pending = s.pending := by
  unfold State.dropDeparting
  cases (s.outs.get p.port).departing with
  | none => rfl
  | some dep => simp

@[simp] theorem State.dropHostCopy_pending (s : State) (dep : Departure) :
    (s.dropHostCopy dep).pending = s.pending :=
  State.releaseCopy_pending ..

@[simp] theorem State.purgeLost_pending (s : State) (p : LinkId) : (s.purgeLost p).pending = s.pending := by
  unfold State.purgeLost
  simp only
  split <;> simp

@[simp] theorem State.flushOutput_pending (s : State) (p : Port) : (s.flushOutput p).pending = s.pending := by
  unfold State.flushOutput
  cases p.link? <;> simp

/-! ## Route resolution -/

@[simp] theorem State.placeCopies_pending (s : State) (d : DescId) (cls : Class) (ps : List Port) :
    (s.placeCopies d cls ps).pending = s.pending :=
  (congrArg State.pending (s.placeCopies_frame d cls ps)).trans rfl

@[simp] theorem State.reportAllRefused_pending (s : State) (source : Port) (h : Header) (ms : List (Port × Code)) :
    (s.reportAllRefused source h ms).pending = s.pending :=
  (congrArg State.pending (s.reportAllRefused_frame source h ms)).trans rfl

@[simp] theorem State.resolve_pending (s : State) (d : DescId) (source : Port) (h : Header) :
    (s.resolve d source h).2.pending = s.pending := by
  unfold State.resolve
  cases s.decideRoute source h with
  | discard cause =>
    simp only
    split <;> simp
  | place outputs refused pointer => cases pointer <;> simp

/-! ## Links -/

@[simp] theorem State.dropReceived_pending (s : State) (p : LinkId) : (s.dropReceived p).pending = s.pending :=
  (congrArg State.pending (s.dropReceived_frame p)).trans rfl

@[simp] theorem State.outputAtFault_pending (s : State) (p : LinkId) : (s.outputAtFault p).pending = s.pending := by
  obtain ⟨u, hu, heq⟩ := s.outputAtFault_eq p
  have hcut : u.pending = s.pending := (congrArg State.pending hu).trans (s.dropDeparting_pending p)
  rw [heq]
  split <;> simp [hcut]

@[simp] theorem State.enterFaulted_pending (s : State) (p : LinkId) (kind : FaultKind)
    (lost : Option (Option Header)) : (s.enterFaulted p kind lost).pending = s.pending := by
  have hlink : (s.faulted p kind lost).pending = s.pending := s.dropReceived_pending p
  rw [State.enterFaulted_eq_faulted]
  split <;> simp [hlink]

@[simp] theorem State.fault_pending (s : State) (p : LinkId) (kind : FaultKind) :
    (s.fault p kind).pending = s.pending :=
  State.enterFaulted_pending ..

@[simp] theorem State.disableLink_pending (s : State) (p : LinkId) : (s.disableLink p).pending = s.pending := by
  have hclosing : (s.closing p).pending = s.pending := s.dropReceived_pending p
  rcases s.disableLink_cases p with ⟨-, h⟩ | ⟨-, h⟩ <;> rw [h]
  rw [State.closeLink_eq_closing]
  simp [hclosing]

@[simp] theorem State.enableLink_pending (s : State) (p : LinkId) : (s.enableLink p).pending = s.pending := by
  unfold State.enableLink
  cases (s.links.get p).state with
  | disabled | listen | sync | run => rfl
  | faulted => cases (s.links.get p).recoveryTimer <;> rfl

@[simp] theorem State.restartLink_pending (s : State) (p : LinkId) : (s.restartLink p).pending = s.pending := by
  unfold State.restartLink
  cases (s.links.get p).state with
  | disabled | listen => rfl
  | sync | run => exact State.fault_pending ..
  | faulted => exact State.enableLink_pending ..

/-! ## Link characters -/

@[simp] theorem State.storeByte_pending (s : State) (f : RxFrame) (b : Byte) :
    (s.storeByte f b).pending = s.pending :=
  (congrArg State.pending (s.storeByte_frame f b)).trans rfl

@[simp] theorem State.giveHeader_pending (s : State) (f : RxFrame) (h : Header) :
    (s.giveHeader f h).pending = s.pending :=
  (congrArg State.pending (s.giveHeader_frame f h)).trans rfl

@[simp] theorem State.discardAtReception_pending (s : State) (p : LinkId) (f : RxFrame) (cause : Code) :
    (s.discardAtReception p f cause).pending = s.pending := by
  rw [State.discardAtReception_eq]
  unfold State.dropFrame
  cases f.disposition <;> simp

theorem State.takeReserveCell_pending {s t : State} {p : LinkId} {c : CellId}
    (h : s.takeReserveCell p = some (c, t)) : t.pending = s.pending := by
  obtain ⟨o, rest, -, -, rfl⟩ := State.takeReserveCell_some h
  rfl

@[simp] theorem State.startFrame_pending (s : State) (p : LinkId) (b : Byte) :
    (s.startFrame p b).pending = s.pending := by
  unfold State.startFrame
  cases hcell : s.takeReserveCell p with
  | none => exact State.enterFaulted_pending ..
  | some taken =>
    have htaken := State.takeReserveCell_pending hcell
    simp only
    cases taken.2.lowestFree <;> simp [State.allocate, htaken]

@[simp] theorem State.headerData_pending (s : State) (p : LinkId) (f : RxFrame) (b : Byte) :
    (s.headerData p f b).pending = s.pending := by
  by_cases h3 : f.position < 3
  · simp [State.headerData_early _ _ _ _ h3]
  · rw [State.headerData_late _ _ _ _ h3]
    simp only
    split <;> simp

@[simp] theorem State.bodyData_pending (s : State) (p : LinkId) (f : RxFrame) (h : Header) (b : Byte) :
    (s.bodyData p f h b).pending = s.pending := by
  unfold State.bodyData
  simp only
  split
  · cases hcell : s.takeReserveCell p with
    | none => exact State.fault_pending ..
    | some taken =>
      have htaken := State.takeReserveCell_pending hcell
      cases f.disposition with
      | storing d =>
        simp only
        cases taken.2.desc d <;> simp [htaken]
      | sinkingNoDescriptor | sinkingSurplus => simpa using htaken
  · cases f.disposition <;> simp

@[simp] theorem State.knownData_pending (s : State) (p : LinkId) (f : RxFrame) (h : Header) (b : Byte) :
    (s.knownData p f h b).pending = s.pending := by
  unfold State.knownData
  split
  · exact State.bodyData_pending ..
  split
  · rfl
  split
  · rfl
  · exact s.discardAtReception_pending p f .lengthMismatch

@[simp] theorem State.dataInRun_pending (s : State) (p : LinkId) (b : Byte) :
    (s.dataInRun p b).pending = s.pending := by
  unfold State.dataInRun
  cases (s.links.get p).rx with
  | none => exact State.startFrame_pending ..
  | some f =>
    simp only
    split
    · rfl
    · exact State.headerData_pending ..
    · exact State.knownData_pending ..

@[simp] theorem State.endGoodInFrame_pending (s : State) (p : LinkId) (f : RxFrame) :
    (s.endGoodInFrame p f).pending = s.pending := by
  cases hd : f.disposition with
  | sinkingSurplus => simp [State.endGoodInFrame, hd]
  | sinkingNoDescriptor => simp [State.endGoodInFrame, hd]
  | storing d =>
    cases hh : f.header with
    | none => simp [State.endGoodInFrame_headerless _ _ _ hd hh]
    | some h =>
      rw [State.endGoodInFrame_known _ _ _ hd hh]
      split
      · simp
      split <;> simp

@[simp] theorem State.endCutInFrame_pending (s : State) (p : LinkId) (f : RxFrame) :
    (s.endCutInFrame p f).pending = s.pending := by
  unfold State.endCutInFrame
  cases f.disposition <;> simp

@[simp] theorem State.codeError_pending (s : State) (p : LinkId) : (s.codeError p).pending = s.pending := by
  unfold State.codeError
  cases (s.links.get p).state with
  | disabled | listen | faulted => rfl
  | sync | run => exact State.fault_pending ..

@[simp] theorem State.endWait_pending (s : State) (p : LinkId) : (s.endWait p).pending = s.pending := by
  unfold State.endWait
  cases (s.outs.get p.port).departing with
  | none => rfl
  | some dep =>
    simp only
    split <;> rfl

@[simp] theorem State.creditInRun_pending (s : State) (p : LinkId) (n : Nat) :
    (s.creditInRun p n).pending = s.pending := by
  unfold State.creditInRun
  split <;> simp

/-! ## Transmission -/

@[simp] theorem State.sendCreditOrIdle_pending (s : State) (p : LinkId) :
    (s.sendCreditOrIdle p).pending = s.pending := by
  unfold State.sendCreditOrIdle
  split <;> rfl

@[simp] theorem State.sendDeparture_pending (s : State) (p : LinkId) (dep : Departure) :
    (s.sendDeparture p dep).pending = s.pending := by
  unfold State.sendDeparture
  simp only
  split
  · simp
  · rfl

@[simp] theorem State.transmitInSync_pending (s : State) (p : LinkId) : (s.transmitInSync p).pending = s.pending := by
  unfold State.transmitInSync
  cases (s.links.get p).syncStep with
  | hello | idle => rfl
  | stream => exact State.sendCreditOrIdle_pending ..

@[simp] theorem State.transmitInRun_pending (s : State) (p : LinkId) : (s.transmitInRun p).pending = s.pending := by
  unfold State.transmitInRun
  split
  · rfl
  cases (s.outs.get p.port).departing with
  | none => exact State.sendCreditOrIdle_pending ..
  | some dep =>
    simp only
    split
    · split
      · rfl
      split
      · exact State.sendDeparture_pending ..
      · rfl
    · exact State.sendDeparture_pending ..

/-! ## The window -/

@[simp] theorem State.endPlain_pending (s : State) (code : Code) : (s.endPlain code).pending = s.pending := rfl

@[simp] theorem State.storePayload_pending (s : State) (d : DescId) (cursor : Nat) (word : Word) :
    (s.storePayload d cursor word).pending = s.pending :=
  (congrArg State.pending (s.storePayload_frame d cursor word)).trans rfl

/-- The queue is no part of the device that a reset sets (R138, R140, log entries 3 and 20). -/
@[simp] theorem State.hardResetValues_pending (s : State) : s.hardResetValues.pending = s.pending := by
  rw [State.hardResetValues]

@[simp] theorem State.softResetValues_pending (s : State) : s.softResetValues.pending = s.pending :=
  (congrArg State.pending s.softResetValues_eq).trans rfl

theorem State.controlWrite_pending (s : State) (word : Word) : (s.controlWrite word).pending = s.pending := by
  unfold State.controlWrite
  split
  · rfl
  split <;> simp

/-- A COMMAND write keeps the queue when the command it takes does. -/
theorem State.commandWrite_pending {run : State → State} (hrun : ∀ u : State, (run u).pending = u.pending)
    (s : State) : (s.commandWrite run).pending = s.pending := by
  rcases s.commandWrite_cases run with ⟨-, h⟩ | ⟨-, h⟩ | ⟨-, -, h⟩ <;> rw [h]
  · exact hrun s.take
  · rfl

/-! ## Host commands once taken -/

theorem State.runSend_pending (s : State) : s.runSend.pending = s.pending := by
  unfold State.runSend
  simp only
  cases classOfWord s.win.taken.w1 with
  | none => rfl
  | some cls =>
    simp only
    split
    · rfl
    cases s.lowestFree with
    | none => rfl
    | some d =>
      simp only
      split
      · rfl
      split
      · rfl
      · simp only [State.beginSend]
        split <;> exact State.writeFrameBytes_pending ..

theorem State.runRecv_pending (s : State) : s.runRecv.pending = s.pending := by
  unfold State.runRecv
  cases s.outs.p0.takeNext with
  | none => rfl
  | some next =>
    simp only
    split
    · simp
    · exact State.markDeparting_pending ..

theorem State.runSkip_pending (s : State) : s.runSkip.pending = s.pending := by
  unfold State.runSkip
  cases s.outs.p0.takeNext with
  | none => rfl
  | some next => simp

theorem State.abortPhase_pending (s : State) : s.abortPhase.pending = s.pending := by
  unfold State.abortPhase
  cases s.win.engine with
  | initialising | idle | executingSend | executingClear => rfl
  | writePhase d cursor => simp
  | readPhase cursor => cases s.outs.p0.departing <;> simp

theorem State.runTableWrite_pending (s : State) : s.runTableWrite.pending = s.pending := by
  unfold State.runTableWrite
  cases tableWriteEntry s.win.taken <;> rfl

theorem State.runTableRead_pending (s : State) : s.runTableRead.pending = s.pending := by
  unfold State.runTableRead
  split <;> rfl

@[simp] theorem State.endLinkControl_pending (s : State) (p : LinkId) (released : Nat) (lost : Bool) :
    (s.endLinkControl p released lost).pending = s.pending := rfl

theorem State.runDisable_pending (s : State) (p : LinkId) : (s.runDisable p).pending = s.pending := by
  unfold State.runDisable
  cases (s.links.get p).state <;> simp

theorem State.runRestart_pending (s : State) (p : LinkId) : (s.runRestart p).pending = s.pending := by
  unfold State.runRestart
  cases (s.links.get p).state <;> simp

theorem State.runLinkControl_pending (s : State) : s.runLinkControl.pending = s.pending := by
  unfold State.runLinkControl
  split
  · rfl
  · rfl
  · exact State.enableLink_pending ..
  · exact State.runDisable_pending ..
  · exact State.runRestart_pending ..

theorem State.runPortConfig_pending (s : State) : s.runPortConfig.pending = s.pending := by
  unfold State.runPortConfig
  simp only
  cases portOfWord s.win.taken.w0 with
  | none => rfl
  | some p =>
    simp only
    split
    · rfl
    cases p.link? with
    | none =>
      simp only
      split <;> rfl
    | some l => cases speedOfWord s.win.taken.w3 <;> rfl

theorem State.runPortFlush_pending (s : State) : s.runPortFlush.pending = s.pending := by
  unfold State.runPortFlush
  cases portOfWord s.win.taken.w0 with
  | none => rfl
  | some p => exact State.flushOutput_pending ..

theorem State.runReadPort_pending (s : State) : s.runReadPort.pending = s.pending := by
  unfold State.runReadPort
  split
  · rfl
  · split <;> rfl

theorem State.runSetPool_pending (s : State) : s.runSetPool.pending = s.pending := by
  unfold State.runSetPool
  split
  · rfl
  cases poolSetting s.pool s.win.taken <;> rfl

theorem State.runReadCounter_pending (s : State) : s.runReadCounter.pending = s.pending := by
  unfold State.runReadCounter
  split
  · split <;> rfl
  · rfl

theorem State.runTakeRecord_pending (s : State) : s.runTakeRecord.pending = s.pending := by
  unfold State.runTakeRecord
  cases s.records.list <;> rfl

theorem State.clearTraffic_pending (s : State) : s.clearTraffic.pending = s.pending :=
  (congrArg State.pending s.clearTraffic_frame).trans rfl

theorem State.runClearSwitch_pending (s : State) : s.runClearSwitch.pending = s.pending := by
  unfold State.runClearSwitch
  split
  · rfl
  · exact (State.setEngine_pending ..).trans s.clearTraffic_pending

end Sys2Proof.Machine
end

section
/-! PROOFS. Every command answers a next state and keeps the queue, and a step takes the command at its front (section
6.6 of the scope, log entries 3, 4, 5, 16 and 20). -/

namespace Sys2Proof.Machine

/-- The answer is a next state with the queue of `s`: no fault, no refusal. -/
def State.Continues (s : State) (a : Answer) : Prop := ∃ t, a = .next t ∧ t.pending = s.pending

theorem State.continues_next {s t : State} (h : t.pending = s.pending) : s.Continues (.next t) := ⟨t, rfl, h⟩

theorem State.continues_commandWrite (s : State) {run : State → State}
    (hrun : ∀ u : State, (run u).pending = u.pending) : s.Continues (.next (s.commandWrite run)) :=
  State.continues_next (State.commandWrite_pending hrun s)

/-! ## Link characters -/

section
variable (s : State) (p : LinkId)

theorem continues_dataReceived (b : Byte) : s.Continues (exec (.dataReceived p b) s) := by
  refine State.continues_next ?_
  cases (s.links.get p).state with
  | disabled | listen | faulted => rfl
  | sync => exact State.fault_pending ..
  | run => exact State.dataInRun_pending ..

theorem continues_endGoodReceived : s.Continues (exec (.endGoodReceived p) s) := by
  refine State.continues_next ?_
  cases (s.links.get p).state with
  | disabled | listen | faulted => rfl
  | sync => exact State.fault_pending ..
  | run =>
    cases (s.links.get p).rx with
    | none => exact State.fault_pending ..
    | some f => exact State.endGoodInFrame_pending ..

theorem continues_endCutReceived : s.Continues (exec (.endCutReceived p) s) := by
  refine State.continues_next ?_
  cases (s.links.get p).state with
  | disabled | listen | faulted => rfl
  | sync => exact State.fault_pending ..
  | run =>
    cases (s.links.get p).rx with
    | none => exact State.fault_pending ..
    | some f => exact State.endCutInFrame_pending ..

theorem continues_creditReceived (n : Nat) : s.Continues (exec (.creditReceived p n) s) := by
  refine State.continues_next ?_
  split
  · cases (s.links.get p).state with
    | disabled | listen | faulted | sync => rfl
    | run => exact State.creditInRun_pending ..
  · exact State.codeError_pending ..

theorem continues_idleReceived : s.Continues (exec (.idleReceived p) s) := by
  refine State.continues_next ?_
  cases (s.links.get p).state <;> rfl

theorem continues_helloReceived : s.Continues (exec (.helloReceived p) s) := by
  refine State.continues_next ?_
  cases (s.links.get p).state with
  | disabled | faulted | listen | sync => rfl
  | run => exact State.fault_pending ..

/-! ## Timers -/

theorem continues_silenceTimerExpiry : s.Continues (exec (.silenceTimerExpiry p) s) := by
  refine State.continues_next ?_
  split
  · cases (s.links.get p).state with
    | disabled | listen | faulted => rfl
    | sync | run => exact State.fault_pending ..
  · rfl

theorem continues_syncTimerExpiry : s.Continues (exec (.syncTimerExpiry p) s) := by
  refine State.continues_next ?_
  split
  · cases (s.links.get p).state with
    | disabled | listen | run | faulted => rfl
    | sync => exact State.fault_pending ..
  · rfl

theorem continues_recoveryTimerExpiry : s.Continues (exec (.recoveryTimerExpiry p) s) := by
  refine State.continues_next ?_
  split
  · cases (s.links.get p).state with
    | disabled | listen | sync | run => rfl
    | faulted =>
      simp only
      split <;> rfl
  · rfl

theorem continues_stallTimerExpiry : s.Continues (exec (.stallTimerExpiry p) s) := by
  refine State.continues_next ?_
  split
  · cases (s.outs.get p.port).departing with
    | none => rfl
    | some dep => exact State.dropDeparting_pending ..
  · rfl

theorem continues_holdTimerExpiry : s.Continues (exec (.holdTimerExpiry p) s) := by
  refine State.continues_next ?_
  split
  · exact State.purgeLost_pending ..
  · rfl

/-! ## Refill, selection, transmission -/

theorem continues_refill : s.Continues (exec .refill s) := by
  refine State.continues_next ?_
  cases (refillOrder s.pool.refillPointer).find? fun p => s.refillable p with
  | none => rfl
  | some p => exact State.refillLink_pending ..

theorem continues_selection : s.Continues (exec (.selection p) s) := by
  refine State.continues_next ?_
  split
  · cases (s.outs.get p.port).takeNext with
    | none => rfl
    | some next => exact State.markDeparting_pending ..
  · rfl

theorem continues_transmitCharacter : s.Continues (exec (.transmitCharacter p) s) := by
  refine State.continues_next ?_
  cases (s.links.get p).state with
  | disabled | faulted | listen => rfl
  | sync => exact State.transmitInSync_pending ..
  | run => exact State.transmitInRun_pending ..

/-! ## The window -/

theorem continues_resolution : s.Continues (exec .resolution s) := by
  refine State.continues_next ?_
  cases s.win.engine with
  | initialising | idle | executingClear | writePhase | readPhase => rfl
  | executingSend d =>
    have hresolve := s.resolve_pending d .p0 (s.headerOf d)
    simp only
    cases hres : s.resolve d .p0 (s.headerOf d) with
    | mk decision u =>
      rw [hres] at hresolve
      cases decision <;> exact hresolve

theorem continues_initialisationEnd : s.Continues (exec .initialisationEnd s) := by
  refine State.continues_next ?_
  split
  · rfl
  cases s.win.engine <;> rfl

theorem continues_clearSwitchEnd : s.Continues (exec .clearSwitchEnd s) := by
  refine State.continues_next ?_
  cases s.win.engine <;> rfl

theorem continues_hardReset : s.Continues (exec .hardReset s) :=
  State.continues_next ((State.modWin_pending ..).trans s.hardResetValues_pending)

theorem continues_irqCauseWrite (word : Word) : s.Continues (exec (.irqCauseWrite word) s) := by
  refine State.continues_next ?_
  split <;> rfl

theorem continues_registerWrite (reg : PlainReg) (word : Word) : s.Continues (exec (.registerWrite reg word) s) := by
  refine State.continues_next ?_
  split
  · rfl
  cases reg <;> rfl

theorem continues_resetRelease : s.Continues (exec .resetRelease s) := by
  refine State.continues_next ?_
  split <;> rfl

theorem continues_dataWrite (word : Word) : s.Continues (exec (.dataWrite word) s) := by
  refine State.continues_next ?_
  split
  · rfl
  cases s.win.engine with
  | initialising | idle | executingSend | executingClear | readPhase => rfl
  | writePhase d cursor =>
    simp only
    split <;> exact State.storePayload_pending ..

theorem continues_dataRead : s.Continues (exec .dataRead s) := by
  refine State.continues_next ?_
  split
  · rfl
  cases s.win.engine with
  | initialising | idle | executingSend | executingClear | writePhase => rfl
  | readPhase cursor =>
    cases s.outs.p0.departing with
    | none => rfl
    | some dep =>
      simp only
      split
      · exact State.dropHostCopy_pending ..
      · rfl

theorem continues_abort : s.Continues (exec .abort s) := by
  refine State.continues_next ?_
  split
  · exact State.abortPhase_pending s
  · exact State.commandWrite_pending (run := fun t => t.endPlain .noTransfer) (fun _ => rfl) s

end

/-! ## Every command, and every step -/

/-- The register writes and events by their own lemmas, the COMMAND writes by what their command does once taken. -/
theorem exec_continues (c : Instr) (s : State) : s.Continues (exec c s) := by
  cases c with
  | dataReceived p b => exact continues_dataReceived s p b
  | endGoodReceived p => exact continues_endGoodReceived s p
  | endCutReceived p => exact continues_endCutReceived s p
  | creditReceived p n => exact continues_creditReceived s p n
  | idleReceived p => exact continues_idleReceived s p
  | helloReceived p => exact continues_helloReceived s p
  | codeErrorReceived p => exact State.continues_next (s.codeError_pending p)
  | silenceTimerExpiry p => exact continues_silenceTimerExpiry s p
  | syncTimerExpiry p => exact continues_syncTimerExpiry s p
  | recoveryTimerExpiry p => exact continues_recoveryTimerExpiry s p
  | stallTimerExpiry p => exact continues_stallTimerExpiry s p
  | holdTimerExpiry p => exact continues_holdTimerExpiry s p
  | refill => exact continues_refill s
  | selection p => exact continues_selection s p
  | transmitCharacter p => exact continues_transmitCharacter s p
  | resolution => exact continues_resolution s
  | initialisationEnd => exact continues_initialisationEnd s
  | clearSwitchEnd => exact continues_clearSwitchEnd s
  | hardReset => exact continues_hardReset s
  | softReset word | masterEnableWrite word => exact State.continues_next (s.controlWrite_pending word)
  | irqCauseWrite word => exact continues_irqCauseWrite s word
  | dataWrite word => exact continues_dataWrite s word
  | dataRead => exact continues_dataRead s
  | registerWrite reg word => exact continues_registerWrite s reg word
  | send => exact s.continues_commandWrite State.runSend_pending
  | recv => exact s.continues_commandWrite State.runRecv_pending
  | skip => exact s.continues_commandWrite State.runSkip_pending
  | abort => exact continues_abort s
  | tableWrite => exact s.continues_commandWrite State.runTableWrite_pending
  | tableRead => exact s.continues_commandWrite State.runTableRead_pending
  | enable | disable | restart => exact s.continues_commandWrite State.runLinkControl_pending
  | portConfig => exact s.continues_commandWrite State.runPortConfig_pending
  | portFlush => exact s.continues_commandWrite State.runPortFlush_pending
  | readPort => exact s.continues_commandWrite State.runReadPort_pending
  | setPool => exact s.continues_commandWrite State.runSetPool_pending
  | readPool => exact s.continues_commandWrite (run := State.runReadPool) fun _ => rfl
  | readCounter => exact s.continues_commandWrite State.runReadCounter_pending
  | clearCounters => exact s.continues_commandWrite (run := State.runClearCounters) fun _ => rfl
  | takeRecord => exact s.continues_commandWrite State.runTakeRecord_pending
  | clearSwitch => exact s.continues_commandWrite State.runClearSwitch_pending
  | badCommand => exact s.continues_commandWrite (run := fun t => t.endPlain .badCommand) fun _ => rfl
  | resetRelease => exact continues_resetRelease s

/-- Settles O2, command by command. -/
theorem everyCommandCompletesAndKeepsTheQueue : Obligations.EveryCommandCompletesAndKeepsTheQueue :=
  exec_continues

theorem step_of_cons {s : State} {c : Instr} {rest : List Instr} (h : s.pending = c :: rest) :
    step s = exec c { s with pending := rest } := by
  rw [step, h]

theorem step_of_nil {s : State} (h : s.pending = []) : step s = .next s := by
  rw [step, h]

/-- Settles O1, by the two shapes of the queue. -/
theorem stepTakesTheFrontCommand : Obligations.StepTakesTheFrontCommand :=
  ⟨fun _ _ _ => step_of_cons, fun _ => step_of_nil⟩

end Sys2Proof.Machine
end
